-- ==== Sys2Proof/Word.lean ====
section
/-! DEFINITION. The byte and word types and the operand widths (10_state.md R30, R31; 00_scope.md R9, R10). -/
namespace Sys2Proof

/-- A byte: 8 bits (00_scope.md R10). -/
abbrev Byte := BitVec 8

/-- A word: 16 bits (00_scope.md R10). -/
abbrev Word := BitVec 16

/-- The operand size that the w bit chooses (30_encoding.md R125): `byte` for w = 0, `word` for w = 1. -/
inductive Width where
  | byte
  | word
  deriving DecidableEq, Repr

/-- The number of bits of an operand: N of 10_state.md R43. -/
abbrev Width.bits : Width → Nat
  | .byte => 8
  | .word => 16

/-- The number of bytes of an operand: n of 43_string.md R330. -/
abbrev Width.bytes : Width → Nat
  | .byte => 1
  | .word => 2

end Sys2Proof
end

