-- ==== Sys2Proof/Machine/Bits.lean ====
section
/-! DEFINITION. Byte order, byte halves and sign extension (20_memory.md R80, R82; 10_state.md R31; 30_encoding.md R151). -/
namespace Sys2Proof.Machine

/-- Bits 7..0 of a word: the byte at the lower address (20_memory.md R80). -/
def lowByte (v : Word) : Byte := v.extractLsb' 0 8

/-- Bits 15..8 of a word: the byte at the higher address (20_memory.md R80). -/
def highByte (v : Word) : Byte := v.extractLsb' 8 8

/-- The word of a low and a high byte (20_memory.md R80, R82). -/
def wordOf (lo hi : Byte) : Word := hi ++ lo

/-- `sext_16` of a byte (30_encoding.md R151). -/
def sext16 (b : Byte) : Word := b.signExtend 16

/-- `zext_16` of a byte. -/
def zext16 (b : Byte) : Word := b.setWidth 16

end Sys2Proof.Machine
end

