-- ==== Sys2Proof/Config.lean ====
section
/-! DEFINITION. The parameters of the machine (00_scope.md R8) and the free values (00_scope.md R11). -/
namespace Sys2Proof

/-- The instruction-set level `LEVEL` (00_scope.md R8, D1): each level includes those before it. -/
inductive Level where
  | l8086
  | l186
  | lx86
  deriving DecidableEq, Repr

/-- `a.includes b`: a row of level `b` decodes at level `a` (30_encoding.md R165). -/
def Level.includes : Level → Level → Bool
  | _, .l8086 => true
  | .l8086, _ => false
  | _, .l186 => true
  | .l186, .lx86 => false
  | .lx86, .lx86 => true

/-- `SEG_WRAP` (R8, D3): where the second byte of a word at offset FFFFh lies. -/
inductive SegWrap where
  | wrap16
  | linear
  deriving DecidableEq, Repr

/-- What `MEMMAP` says a physical address holds (R8, D5). -/
inductive MemKind where
  | ram
  | rom
  | absent
  | device
  deriving DecidableEq, Repr

/-- One range of the memory map: `size` physical addresses from `base` on. -/
structure Region where
  base : Nat
  size : Nat
  kind : MemKind
  deriving DecidableEq, Repr

/-- `PUSH_SP_VALUE` (R8, D13): which value of SP PUSH SP stores. -/
inductive PushSp where
  | new
  | old
  deriving DecidableEq, Repr

/-- `SHIFT_COUNT_MASK` (R8, D14): how a count in CL is used. -/
inductive CountMask where
  | none
  | mask5
  deriving DecidableEq, Repr

/-- `DIV_FAULT_IP` (R8, D18): which IP a divide error saves. -/
inductive DivFaultIp where
  | next
  | faulting
  deriving DecidableEq, Repr

/-- The implementation parameters of 00_scope.md R8. `ADDR_BITS` is fixed at 20 there and is no field.
`memMap` lists ranges, the first that holds an address decides, and an address in none is `ram` (entry 27). -/
structure Config where
  level : Level
  segWrap : SegWrap
  memMap : List Region
  flagsMask : Word
  flagsValue : Word
  pushSp : PushSp
  countMask : CountMask
  divFaultIp : DivFaultIp
  shadowSeg : Bool
  coprocessor : Bool
  prefetchDepth : Fin 7
  deriving DecidableEq, Repr

/-- The defaults of 00_scope.md R8 at a level. -/
def Config.ofLevel (lvl : Level) : Config where
  level := lvl
  segWrap := .wrap16
  memMap := []
  flagsMask := 0xF02A#16
  flagsValue := 0xF002#16
  pushSp := .new
  countMask := match lvl with | .l8086 => .none | _ => .mask5
  divFaultIp := match lvl with | .l8086 => .next | _ => .faulting
  shadowSeg := true
  coprocessor := false
  prefetchDepth := 0

/-- The default machine: the plain 8086 (00_scope.md R8). -/
def Config.default : Config := Config.ofLevel .l8086

/-- The free values: `draw_N()` of 00_scope.md R11. No body and no law: `State.draws` numbers the draws, and every
statement holds whatever these values are (DESIGN CHOICE, entry 5; safe). -/
opaque Config.freeValue : Nat → Word

end Sys2Proof
end

