-- ==== Sys2Proof/Syntax.lean ====
section
/-! DEFINITION. The instructions: one constructor of `Instr` per row of spec/opcode_table.json (seven
pairs of LX86 rows that differ in one size bit share theirs, entry 25), with the operand forms of 30_encoding.md R125 to R161. -/
namespace Sys2Proof

/-- A 3-bit register number (10_state.md R30, R31): `r0` is AX or AL, ..., `r7` is DI or BH. At level LX86 also the
number of a register of another file (30_encoding.md R161). -/
inductive RegNum where
  | r0 | r1 | r2 | r3 | r4 | r5 | r6 | r7
  deriving DecidableEq, Repr

/-- The number of AX as a word register (10_state.md R30). -/
abbrev RegNum.ax : RegNum := .r0
/-- The number of CX. -/
abbrev RegNum.cx : RegNum := .r1
/-- The number of DX. -/
abbrev RegNum.dx : RegNum := .r2
/-- The number of BX. -/
abbrev RegNum.bx : RegNum := .r3
/-- The number of SP. -/
abbrev RegNum.sp : RegNum := .r4
/-- The number of BP. -/
abbrev RegNum.bp : RegNum := .r5
/-- The number of SI. -/
abbrev RegNum.si : RegNum := .r6
/-- The number of DI. -/
abbrev RegNum.di : RegNum := .r7
/-- The number of AL as a byte register (10_state.md R31). -/
abbrev RegNum.al : RegNum := .r0
/-- The number of CL. -/
abbrev RegNum.cl : RegNum := .r1
/-- The number of AH. -/
abbrev RegNum.ah : RegNum := .r4

/-- A segment register, by its 2-bit number (10_state.md R34). -/
inductive SReg where
  | es | cs | ss | ds
  deriving DecidableEq, Repr

/-- The base of an effective address, by its 3-bit r/m number (30_encoding.md R133). -/
inductive Base where
  | bxsi | bxdi | bpsi | bpdi | si | di | bp | bx
  deriving DecidableEq, Repr

/-- A memory operand of a ModR/M byte (30_encoding.md R131, R133): mod = 00 with r/m = 110 is `direct`, any other mod = 00
is `base`, mod = 01 is `disp8`, mod = 10 is `disp16`. -/
inductive MemEA where
  | direct (off : Word)
  | base (b : Base)
  | disp8 (b : Base) (d : Byte)
  | disp16 (b : Base) (d : Word)
  deriving DecidableEq, Repr

/-- An r/m operand (30_encoding.md R131, R132): mod = 11 is `reg`. -/
inductive RM where
  | reg (r : RegNum)
  | mem (m : MemEA)
  deriving DecidableEq, Repr

/-- An immediate of the operand's size (30_encoding.md R150): its size is the w bit of the opcode. -/
inductive Imm where
  | ib (b : Byte)
  | iw (v : Word)
  deriving DecidableEq, Repr

/-- The count of a shift or rotate: the v bit of 30_encoding.md R173. -/
inductive ShiftBy where
  | one
  | cl
  deriving DecidableEq, Repr

/-- Bit 2 of the first byte of an x87 memory row (46_x87_escape.md R461 to R498): `m32` is D8h or DAh, `alt` is DCh (mem64) or
DEh (mem16). -/
inductive X87Size where
  | m32
  | alt
  deriving DecidableEq, Repr

/-- The instructions: first the rows with operands, then those without, each in the table's order. Rows with a prefix byte's format are the prefix bytes of 30_encoding.md R140 and R144. -/
inductive Instr where
  /-- 00..01 /r: ADD r/m, r (R250). -/
  | addRmReg (w : Width) (rm : RM) (r : RegNum)
  /-- 02..03 /r: ADD r, r/m (R250). -/
  | addRegRm (w : Width) (r : RegNum) (rm : RM)
  /-- 04..05: ADD AL/AX, imm (R250). -/
  | addAcc (imm : Imm)
  /-- 80..81 /0: ADD r/m, imm (R250). -/
  | addRmImm (rm : RM) (imm : Imm)
  /-- 83 /0: ADD r/m16, ib (sign-extended) (R250). -/
  | addRmImm8 (rm : RM) (b : Byte)
  /-- 08..09 /r: OR r/m, r (R302). -/
  | orRmReg (w : Width) (rm : RM) (r : RegNum)
  /-- 0A..0B /r: OR r, r/m (R302). -/
  | orRegRm (w : Width) (r : RegNum) (rm : RM)
  /-- 0C..0D: OR AL/AX, imm (R302). -/
  | orAcc (imm : Imm)
  /-- 80..81 /1: OR r/m, imm (R302). -/
  | orRmImm (rm : RM) (imm : Imm)
  /-- 10..11 /r: ADC r/m, r (R251). -/
  | adcRmReg (w : Width) (rm : RM) (r : RegNum)
  /-- 12..13 /r: ADC r, r/m (R251). -/
  | adcRegRm (w : Width) (r : RegNum) (rm : RM)
  /-- 14..15: ADC AL/AX, imm (R251). -/
  | adcAcc (imm : Imm)
  /-- 80..81 /2: ADC r/m, imm (R251). -/
  | adcRmImm (rm : RM) (imm : Imm)
  /-- 83 /2: ADC r/m16, ib (sign-extended) (R251). -/
  | adcRmImm8 (rm : RM) (b : Byte)
  /-- 18..19 /r: SBB r/m, r (R254). -/
  | sbbRmReg (w : Width) (rm : RM) (r : RegNum)
  /-- 1A..1B /r: SBB r, r/m (R254). -/
  | sbbRegRm (w : Width) (r : RegNum) (rm : RM)
  /-- 1C..1D: SBB AL/AX, imm (R254). -/
  | sbbAcc (imm : Imm)
  /-- 80..81 /3: SBB r/m, imm (R254). -/
  | sbbRmImm (rm : RM) (imm : Imm)
  /-- 83 /3: SBB r/m16, ib (sign-extended) (R254). -/
  | sbbRmImm8 (rm : RM) (b : Byte)
  /-- 20..21 /r: AND r/m, r (R301). -/
  | andRmReg (w : Width) (rm : RM) (r : RegNum)
  /-- 22..23 /r: AND r, r/m (R301). -/
  | andRegRm (w : Width) (r : RegNum) (rm : RM)
  /-- 24..25: AND AL/AX, imm (R301). -/
  | andAcc (imm : Imm)
  /-- 80..81 /4: AND r/m, imm (R301). -/
  | andRmImm (rm : RM) (imm : Imm)
  /-- 83 /4: AND r/m16, ib (sign-extended) (R301). -/
  | andRmImm8 (rm : RM) (b : Byte)
  /-- 28..29 /r: SUB r/m, r (R253). -/
  | subRmReg (w : Width) (rm : RM) (r : RegNum)
  /-- 2A..2B /r: SUB r, r/m (R253). -/
  | subRegRm (w : Width) (r : RegNum) (rm : RM)
  /-- 2C..2D: SUB AL/AX, imm (R253). -/
  | subAcc (imm : Imm)
  /-- 80..81 /5: SUB r/m, imm (R253). -/
  | subRmImm (rm : RM) (imm : Imm)
  /-- 83 /5: SUB r/m16, ib (sign-extended) (R253). -/
  | subRmImm8 (rm : RM) (b : Byte)
  /-- 30..31 /r: XOR r/m, r (R303). -/
  | xorRmReg (w : Width) (rm : RM) (r : RegNum)
  /-- 32..33 /r: XOR r, r/m (R303). -/
  | xorRegRm (w : Width) (r : RegNum) (rm : RM)
  /-- 34..35: XOR AL/AX, imm (R303). -/
  | xorAcc (imm : Imm)
  /-- 80..81 /6: XOR r/m, imm (R303). -/
  | xorRmImm (rm : RM) (imm : Imm)
  /-- 38..39 /r: CMP r/m, r (R257). -/
  | cmpRmReg (w : Width) (rm : RM) (r : RegNum)
  /-- 3A..3B /r: CMP r, r/m (R257). -/
  | cmpRegRm (w : Width) (r : RegNum) (rm : RM)
  /-- 3C..3D: CMP AL/AX, imm (R257). -/
  | cmpAcc (imm : Imm)
  /-- 80..81 /7: CMP r/m, imm (R257). -/
  | cmpRmImm (rm : RM) (imm : Imm)
  /-- 83 /7: CMP r/m16, ib (sign-extended) (R257). -/
  | cmpRmImm8 (rm : RM) (b : Byte)
  /-- 40..47: INC r16 (R252). -/
  | incReg (r : RegNum)
  /-- 48..4F: DEC r16 (R255). -/
  | decReg (r : RegNum)
  /-- 50..57: PUSH r16 (R211). -/
  | pushReg (r : RegNum)
  /-- 58..5F: POP r16 (R215). -/
  | popReg (r : RegNum)
  /-- 62 /r: BOUND r16, m16&16 (R417). -/
  | bound (r : RegNum) (m : MemEA)
  /-- 68: PUSH iw (R220). -/
  | pushImm (v : Word)
  /-- 6A: PUSH ib (sign-extended) (R220). -/
  | pushImm8 (b : Byte)
  /-- 6C..6D: INSB_INSW (R340). -/
  | ins (w : Width)
  /-- 6E..6F: OUTSB_OUTSW (R341). -/
  | outs (w : Width)
  /-- 70: JO cb (R381). -/
  | jo (b : Byte)
  /-- 71: JNO cb (R382). -/
  | jno (b : Byte)
  /-- 72: JB_JNAE_JC cb (R383). -/
  | jb (b : Byte)
  /-- 73: JNB_JAE_JNC cb (R384). -/
  | jnb (b : Byte)
  /-- 74: JZ_JE cb (R385). -/
  | jz (b : Byte)
  /-- 75: JNZ_JNE cb (R386). -/
  | jnz (b : Byte)
  /-- 76: JBE_JNA cb (R387). -/
  | jbe (b : Byte)
  /-- 77: JNBE_JA cb (R388). -/
  | jnbe (b : Byte)
  /-- 78: JS cb (R389). -/
  | js (b : Byte)
  /-- 79: JNS cb (R390). -/
  | jns (b : Byte)
  /-- 7A: JP_JPE cb (R391). -/
  | jp (b : Byte)
  /-- 7B: JNP_JPO cb (R392). -/
  | jnp (b : Byte)
  /-- 7C: JL_JNGE cb (R393). -/
  | jl (b : Byte)
  /-- 7D: JNL_JGE cb (R394). -/
  | jnl (b : Byte)
  /-- 7E: JLE_JNG cb (R395). -/
  | jle (b : Byte)
  /-- 7F: JNLE_JG cb (R396). -/
  | jnle (b : Byte)
  /-- 84..85 /r: TEST r/m, r (R304). -/
  | testRmReg (w : Width) (rm : RM) (r : RegNum)
  /-- 86..87 /r: XCHG r/m, r (R221). -/
  | xchgRmReg (w : Width) (rm : RM) (r : RegNum)
  /-- 88..89 /r: MOV r/m, r (R200). -/
  | movRmReg (w : Width) (rm : RM) (r : RegNum)
  /-- 8A..8B /r: MOV r, r/m (R201). -/
  | movRegRm (w : Width) (r : RegNum) (rm : RM)
  /-- 8C /s: MOV r/m16, sreg (R207). -/
  | movRmSreg (rm : RM) (sr : SReg)
  /-- 8D /r: LEA r16, m (R228). -/
  | lea (r : RegNum) (m : MemEA)
  /-- 8E /s: MOV sreg, r/m16 (R206). -/
  | movSregRm (sr : SReg) (rm : RM)
  /-- 8F /0: POP r/m16 (R216). -/
  | popRm (rm : RM)
  /-- 90..97: XCHG AX, r16 (R222). -/
  | xchgAx (r : RegNum)
  /-- 9A: CALL far seg:off (R363). -/
  | callFar (off : Word) (seg : Word)
  /-- A0..A1: MOV AL/AX, [addr] (R204). -/
  | movAccMem (w : Width) (off : Word)
  /-- A2..A3: MOV [addr], AL/AX (R205). -/
  | movMemAcc (w : Width) (off : Word)
  /-- A4..A5: MOVSB_MOVSW (R331). -/
  | movs (w : Width)
  /-- A6..A7: CMPSB_CMPSW (R332). -/
  | cmps (w : Width)
  /-- AA..AB: STOSB_STOSW (R335). -/
  | stos (w : Width)
  /-- AC..AD: LODSB_LODSW (R334). -/
  | lods (w : Width)
  /-- AE..AF: SCASB_SCASW (R333). -/
  | scas (w : Width)
  /-- A8..A9: TEST AL/AX, imm (R304). -/
  | testAcc (imm : Imm)
  /-- B0..BF: MOV r, imm (R203). -/
  | movRegImm (r : RegNum) (imm : Imm)
  /-- C2: RET iw (near) (R366). -/
  | retImm (v : Word)
  /-- C4 /r: LES r16, m16:16 (R235). -/
  | les (r : RegNum) (m : MemEA)
  /-- C5 /r: LDS r16, m16:16 (R229). -/
  | lds (r : RegNum) (m : MemEA)
  /-- C6..C7 /0: MOV r/m, imm (R202). -/
  | movRmImm (rm : RM) (imm : Imm)
  /-- C8: ENTER iw, ib (R415). -/
  | enter (v : Word) (b : Byte)
  /-- CA: RETF iw (R368). -/
  | retfImm (v : Word)
  /-- CD: INT ib (R410). -/
  | intN (b : Byte)
  /-- D0..D3 /0: ROL r/m, 1/CL (R311). -/
  | rol (w : Width) (n : ShiftBy) (rm : RM)
  /-- D0..D3 /1: ROR r/m, 1/CL (R312). -/
  | ror (w : Width) (n : ShiftBy) (rm : RM)
  /-- D0..D3 /2: RCL r/m, 1/CL (R313). -/
  | rcl (w : Width) (n : ShiftBy) (rm : RM)
  /-- D0..D3 /3: RCR r/m, 1/CL (R314). -/
  | rcr (w : Width) (n : ShiftBy) (rm : RM)
  /-- D0..D3 /4: SHL_SAL r/m, 1/CL (R315). -/
  | shl (w : Width) (n : ShiftBy) (rm : RM)
  /-- D0..D3 /5: SHR r/m, 1/CL (R316). -/
  | shr (w : Width) (n : ShiftBy) (rm : RM)
  /-- D0..D3 /7: SAR r/m, 1/CL (R317). -/
  | sar (w : Width) (n : ShiftBy) (rm : RM)
  /-- D8..DF /r: ESC opcode, r/m (R443). -/
  | esc (t : BitVec 3) (l : BitVec 3) (rm : RM)
  /-- E0: LOOPNE_LOOPNZ cb (R402). -/
  | loopne (b : Byte)
  /-- E1: LOOPE_LOOPZ cb (R401). -/
  | loope (b : Byte)
  /-- E2: LOOP cb (R400). -/
  | loop (b : Byte)
  /-- E3: JCXZ cb (R403). -/
  | jcxz (b : Byte)
  /-- E4..E5: IN AL/AX, ib (R224). -/
  | inImm (w : Width) (b : Byte)
  /-- E6..E7: OUT ib, AL/AX (R226). -/
  | outImm (w : Width) (b : Byte)
  /-- E8: CALL cw (near) (R361). -/
  | callNear (v : Word)
  /-- E9: JMP cw (near) (R371). -/
  | jmpNear (v : Word)
  /-- EA: JMP far seg:off (R372). -/
  | jmpFar (off : Word) (seg : Word)
  /-- EB: JMP cb (short) (R370). -/
  | jmpShort (b : Byte)
  /-- EC..ED: IN AL/AX, DX (R225). -/
  | inDx (w : Width)
  /-- EE..EF: OUT DX, AL/AX (R227). -/
  | outDx (w : Width)
  /-- F6..F7 /0: TEST r/m, imm (R304). -/
  | testRmImm (rm : RM) (imm : Imm)
  /-- F6..F7 /2: NOT r/m (R300). -/
  | notRm (w : Width) (rm : RM)
  /-- F6..F7 /3: NEG r/m (R256). -/
  | neg (w : Width) (rm : RM)
  /-- F6..F7 /4: MUL r/m (R270). -/
  | mul (w : Width) (rm : RM)
  /-- F6..F7 /5: IMUL r/m (R271). -/
  | imul (w : Width) (rm : RM)
  /-- F6..F7 /6: DIV r/m (R272). -/
  | div (w : Width) (rm : RM)
  /-- F6..F7 /7: IDIV r/m (R273). -/
  | idiv (w : Width) (rm : RM)
  /-- FE..FF /0: INC r/m (R252). -/
  | incRm (w : Width) (rm : RM)
  /-- FE..FF /1: DEC r/m (R255). -/
  | decRm (w : Width) (rm : RM)
  /-- FF /2: CALL r/m16 (near indirect) (R362). -/
  | callRm (rm : RM)
  /-- FF /3: CALL FAR m16:16 (far indirect) (R364). -/
  | callFarMem (m : MemEA)
  /-- FF /4: JMP r/m16 (near indirect) (R373). -/
  | jmpRm (rm : RM)
  /-- FF /5: JMP FAR m16:16 (far indirect) (R374). -/
  | jmpFarMem (m : MemEA)
  /-- FF /6: PUSH r/m16 (R213). -/
  | pushRm (rm : RM)
  /-- D8 /0: FADD mem32 (R461); DC /0: FADD mem64 (R489). -/
  | faddMem (z : X87Size) (m : MemEA)
  /-- D8 /2: FCOM mem32 (R462); DC /2: FCOM mem64 (R490). -/
  | fcomMem (z : X87Size) (m : MemEA)
  /-- D8 /3: FCOMP mem32 (R463); DC /3: FCOMP mem64 (R491). -/
  | fcompMem (z : X87Size) (m : MemEA)
  /-- D8 /6: FDIV mem32 (R464); DC /6: FDIV mem64 (R492). -/
  | fdivMem (z : X87Size) (m : MemEA)
  /-- D8 /7: FDIVR mem32 (R465); DC /7: FDIVR mem64 (R493). -/
  | fdivrMem (z : X87Size) (m : MemEA)
  /-- D8 C0..C7: FADD fpureg (R467). -/
  | faddReg (r : RegNum)
  /-- D8 D0..D7: FCOM fpureg (R468). -/
  | fcomReg (r : RegNum)
  /-- D8 D8..DF: FCOMP fpureg (R469). -/
  | fcompReg (r : RegNum)
  /-- D8 F0..F7: FDIV fpureg (R470). -/
  | fdivReg (r : RegNum)
  /-- D8 F8..FF: FDIVR fpureg (R471). -/
  | fdivrReg (r : RegNum)
  /-- DA /0: FIADD mem32 (R477); DE /0: FIADD mem16 (R498). -/
  | fiaddMem (z : X87Size) (m : MemEA)
  /-- DA C0..C7: FCMOVB ST,STi (R478). -/
  | fcmovb (r : RegNum)
  /-- DA C8..CF: FCMOVE ST,STi (R479). -/
  | fcmove (r : RegNum)
  /-- DA D0..D7: FCMOVBE ST,STi (R480). -/
  | fcmovbe (r : RegNum)
  /-- DA D8..DF: FCMOVU ST,STi (R481). -/
  | fcmovu (r : RegNum)
  /-- DB C0..C7: FCMOVNB ST,STi (R482). -/
  | fcmovnb (r : RegNum)
  /-- DB C8..CF: FCMOVNE ST,STi (R483). -/
  | fcmovne (r : RegNum)
  /-- DB D0..D7: FCMOVNBE ST,STi (R484). -/
  | fcmovnbe (r : RegNum)
  /-- DB D8..DF: FCMOVNU ST,STi (R485). -/
  | fcmovnu (r : RegNum)
  /-- DB E8..EF: FUCOMI ST, ST(i) (R487). -/
  | fucomi (r : RegNum)
  /-- DB F0..F7: FCOMI ST, ST(i) (R488). -/
  | fcomi (r : RegNum)
  /-- DC C0..C7: FADD fpureg,ST0 (R494). -/
  | faddRegSt0 (r : RegNum)
  /-- DC F0..F7: FDIVR fpureg,ST0 (R495). -/
  | fdivrRegSt0 (r : RegNum)
  /-- DC F8..FF: FDIV fpureg,ST0 (R496). -/
  | fdivRegSt0 (r : RegNum)
  /-- DD C0..C7: FFREE fpureg (R497). -/
  | ffree (r : RegNum)
  /-- DE C0..C7: FADDP fpureg (R499). -/
  | faddp (r : RegNum)
  /-- DE F0..F7: FDIVRP fpureg (R501). -/
  | fdivrp (r : RegNum)
  /-- DE F8..FF: FDIVP fpureg (R503). -/
  | fdivp (r : RegNum)
  /-- DF /4: FBLD mem80 (R504). -/
  | fbld (m : MemEA)
  /-- DF /6: FBSTP mem80 (R508). -/
  | fbstp (m : MemEA)
  /-- DF C0..C7: FFREEP fpureg (R509). -/
  | ffreep (r : RegNum)
  /-- DF E8..EF: FUCOMIP ST, ST(i) (R510). -/
  | fucomip (r : RegNum)
  /-- DF F0..F7: FCOMIP ST, ST(i) (R511). -/
  | fcomip (r : RegNum)
  /-- 0F 40 /r: CMOVO reg16, reg/mem16 (R542). -/
  | cmovo (r : RegNum) (rm : RM)
  /-- 0F 41 /r: CMOVNO reg16, reg/mem16 (R543). -/
  | cmovno (r : RegNum) (rm : RM)
  /-- 0F 42 /r: CMOVB reg16, reg/mem16 (R544). -/
  | cmovb (r : RegNum) (rm : RM)
  /-- 0F 43 /r: CMOVNB reg16,reg/mem16 (R545). -/
  | cmovnb (r : RegNum) (rm : RM)
  /-- 0F 44 /r: CMOVZ reg16, reg/mem16 (R546). -/
  | cmovz (r : RegNum) (rm : RM)
  /-- 0F 45 /r: CMOVNZ reg16, reg/mem16 (R547). -/
  | cmovnz (r : RegNum) (rm : RM)
  /-- 0F 46 /r: CMOVBE reg16, reg/mem16 (R548). -/
  | cmovbe (r : RegNum) (rm : RM)
  /-- 0F 47 /r: CMOVNBE reg16, reg/mem16 (R549). -/
  | cmovnbe (r : RegNum) (rm : RM)
  /-- 0F 48 /r: CMOVS reg16, reg/mem16 (R550). -/
  | cmovs (r : RegNum) (rm : RM)
  /-- 0F 49 /r: CMOVNS reg16, reg/mem16 (R551). -/
  | cmovns (r : RegNum) (rm : RM)
  /-- 0F 4A /r: CMOVP reg16, reg/mem16 (R552). -/
  | cmovp (r : RegNum) (rm : RM)
  /-- 0F 4B /r: CMOVNP reg16, reg/mem16 (R553). -/
  | cmovnp (r : RegNum) (rm : RM)
  /-- 0F 4C /r: CMOVL reg16, reg/mem16 (R554). -/
  | cmovl (r : RegNum) (rm : RM)
  /-- 0F 4D /r: CMOVNL reg16, reg/mem16 (R555). -/
  | cmovnl (r : RegNum) (rm : RM)
  /-- 0F 4E /r: CMOVLE reg16, reg/mem16 (R556). -/
  | cmovle (r : RegNum) (rm : RM)
  /-- 0F 4F /r: CMOVNLE reg16, reg/mem16 (R557). -/
  | cmovnle (r : RegNum) (rm : RM)
  /-- 0F A3 /r: BT reg/mem16, reg16 (R564). -/
  | btRmReg (r : RegNum) (rm : RM)
  /-- 0F AB /r: BTS reg/mem16, reg16 (R568). -/
  | btsRmReg (r : RegNum) (rm : RM)
  /-- 0F AE /7: CLFLUSH mem8 (R593). -/
  | clflush (m : MemEA)
  /-- 0F B0 /r: CMPXCHG reg/mem8, reg8 (R560). -/
  | cmpxchgRm8 (r : RegNum) (rm : RM)
  /-- 0F B1 /r: CMPXCHG reg/mem16, reg16 (R561). -/
  | cmpxchgRm16 (r : RegNum) (rm : RM)
  /-- 0F B3 /r: BTR reg/mem16, reg16 (R569). -/
  | btrRmReg (r : RegNum) (rm : RM)
  /-- 0F BA /4: BT reg/mem16, imm8 (R570). -/
  | btRmImm (rm : RM) (b : Byte)
  /-- 0F BA /5: BTS reg/mem16, imm8 (R571). -/
  | btsRmImm (rm : RM) (b : Byte)
  /-- 0F BA /6: BTR reg/mem16, imm8 (R572). -/
  | btrRmImm (rm : RM) (b : Byte)
  /-- 0F BA /7: BTC reg/mem16, imm8 (R573). -/
  | btcRmImm (rm : RM) (b : Byte)
  /-- 0F BB /r: BTC reg/mem16, reg16 (R574). -/
  | btcRmReg (r : RegNum) (rm : RM)
  /-- 0F BC /r: BSF reg16, reg/mem16 (R575). -/
  | bsf (r : RegNum) (rm : RM)
  /-- 0F BD /r: BSR reg16, reg/mem16 (R576). -/
  | bsr (r : RegNum) (rm : RM)
  /-- 0F C7 /1: CMPXCHG8B mem64 (R562). -/
  | cmpxchg8b (m : MemEA)
  /-- 0F C8..CF: BSWAP reg32 (R577). -/
  | bswap (r : RegNum)
  /-- 63 /r: ARPL reg/mem16, reg16 (R600). -/
  | arpl (r : RegNum) (rm : RM)
  /-- F2 0F 38 F0 /r: CRC32 r32, r/m8 (R606); F2 0F 38 F1 /r: CRC32 r32, r/m16 (R607). -/
  | crc32 (w : Width) (r : RegNum) (rm : RM)
  /-- F3 0F B8 /r: POPCNT reg16, reg/mem16 (R608). -/
  | popcnt (r : RegNum) (rm : RM)
  /-- 0F 2A /r: CVTPI2PS xmm,mm/m64 (R632). -/
  | cvtpi2ps (r : RegNum) (rm : RM)
  /-- 0F 2C /r: CVTTPS2PI mm,xmm/m64 (R633). -/
  | cvttps2pi (r : RegNum) (rm : RM)
  /-- 0F 2D /r: CVTPS2PI mm,xmm/m64 (R634). -/
  | cvtps2pi (r : RegNum) (rm : RM)
  /-- 0F 2F /r: COMISS xmm1,xmm2/m32 (R635). -/
  | comiss (r : RegNum) (rm : RM)
  /-- 0F 54 /r: ANDPS xmmreg,r/m128 (R636). -/
  | andps (r : RegNum) (rm : RM)
  /-- 0F 55 /r: ANDNPS xmmreg,r/m128 (R637). -/
  | andnps (r : RegNum) (rm : RM)
  /-- 0F 58 /r: ADDPS xmm1, xmm2/m128 (R638). -/
  | addps (r : RegNum) (rm : RM)
  /-- 0F 5A /r: CVTPS2PD xmm1, xmm2/m64 (R639). -/
  | cvtps2pd (r : RegNum) (rm : RM)
  /-- 0F 5B /r: CVTDQ2PS xmm1, xmm2/m128 (R640). -/
  | cvtdq2ps (r : RegNum) (rm : RM)
  /-- 0F 5E /r: DIVPS xmm1,xmm2/m128 (R641). -/
  | divps (r : RegNum) (rm : RM)
  /-- 0F C2 /r: CMPPS xmm1,xmm2/m128,imm8 (R643). -/
  | cmpps (r : RegNum) (rm : RM) (b : Byte)
  /-- 66 0F 2A /r: CVTPI2PD xmm, mm/m64 (R644). -/
  | cvtpi2pd (r : RegNum) (rm : RM)
  /-- 66 0F 2C /r: CVTTPD2PI mm, xmm/m128 (R645). -/
  | cvttpd2pi (r : RegNum) (rm : RM)
  /-- 66 0F 2D /r: CVTPD2PI mm, xmm/m128 (R646). -/
  | cvtpd2pi (r : RegNum) (rm : RM)
  /-- 66 0F 2F /r: COMISD xmm1,xmm2/m64 (R647). -/
  | comisd (r : RegNum) (rm : RM)
  /-- 66 0F 38 14 /r: BLENDVPS xmm1,xmm2/m128,xmm0 (R648). -/
  | blendvps (r : RegNum) (rm : RM)
  /-- 66 0F 38 15 /r: BLENDVPD xmm1,xmm2/m128,xmm0 (R649). -/
  | blendvpd (r : RegNum) (rm : RM)
  /-- 66 0F 38 DB /r: AESIMC xmm1,xmm2/m128 (R650). -/
  | aesimc (r : RegNum) (rm : RM)
  /-- 66 0F 38 DC /r: AESENC xmm1,xmm2/m128 (R651). -/
  | aesenc (r : RegNum) (rm : RM)
  /-- 66 0F 38 DD /r: AESENCLAST xmm1,xmm2/m128 (R652). -/
  | aesenclast (r : RegNum) (rm : RM)
  /-- 66 0F 38 DE /r: AESDEC xmm1,xmm2/m128 (R653). -/
  | aesdec (r : RegNum) (rm : RM)
  /-- 66 0F 38 DF /r: AESDECLAST xmm1,xmm2/m128 (R654). -/
  | aesdeclast (r : RegNum) (rm : RM)
  /-- 66 0F 3A 0C /r: BLENDPS xmm1,xmm2/m128,imm8 (R655). -/
  | blendps (r : RegNum) (rm : RM) (b : Byte)
  /-- 66 0F 3A 0D /r: BLENDPD xmm1,xmm2/m128,imm8 (R656). -/
  | blendpd (r : RegNum) (rm : RM) (b : Byte)
  /-- 66 0F 3A 40 /r: DPPS xmm1,xmm2/m128,imm8 (R657). -/
  | dpps (r : RegNum) (rm : RM) (b : Byte)
  /-- 66 0F 3A 41 /r: DPPD xmm1,xmm2/m128,imm8 (R658). -/
  | dppd (r : RegNum) (rm : RM) (b : Byte)
  /-- 66 0F 3A DF /r: AESKEYGENASSIST xmm1,xmm2/m128,imm8 (R659). -/
  | aeskeygenassist (r : RegNum) (rm : RM) (b : Byte)
  /-- 66 0F 54 /r: ANDPD xmm1, xmm2/m128 (R660). -/
  | andpd (r : RegNum) (rm : RM)
  /-- 66 0F 55 /r: ANDNPD xmm1, xmm2/m128 (R661). -/
  | andnpd (r : RegNum) (rm : RM)
  /-- 66 0F 58 /r: ADDPD xmm1, xmm2/m128 (R662). -/
  | addpd (r : RegNum) (rm : RM)
  /-- 66 0F 5A /r: CVTPD2PS xmm1, xmm2/m128 (R663). -/
  | cvtpd2ps (r : RegNum) (rm : RM)
  /-- 66 0F 5B /r: CVTPS2DQ xmm1, xmm2/m128 (R664). -/
  | cvtps2dq (r : RegNum) (rm : RM)
  /-- 66 0F 5E /r: DIVPD xmm1, xmm2/m128 (R665). -/
  | divpd (r : RegNum) (rm : RM)
  /-- 66 0F C2 /r: CMPPD xmm1,xmm2/m128,imm8 (R666). -/
  | cmppd (r : RegNum) (rm : RM) (b : Byte)
  /-- 66 0F D0 /r: ADDSUBPD xmm1, xmm2/m128 (R667). -/
  | addsubpd (r : RegNum) (rm : RM)
  /-- 66 0F E6 /r: CVTTPD2DQ xmm1, xmm2/m128 (R668). -/
  | cvttpd2dq (r : RegNum) (rm : RM)
  /-- F2 0F 2A /r: CVTSI2SD xmm, r/m32 (R669). -/
  | cvtsi2sd (r : RegNum) (rm : RM)
  /-- F2 0F 2C /r: CVTTSD2SI r32, xmm/m64 (R670). -/
  | cvttsd2si (r : RegNum) (rm : RM)
  /-- F2 0F 2D /r: CVTSD2SI r32, xmm/m64 (R671). -/
  | cvtsd2si (r : RegNum) (rm : RM)
  /-- F2 0F 58 /r: ADDSD xmm1, xmm2/m128 (R672). -/
  | addsd (r : RegNum) (rm : RM)
  /-- F2 0F 5A /r: CVTSD2SS xmm1, xmm2/m64 (R673). -/
  | cvtsd2ss (r : RegNum) (rm : RM)
  /-- F2 0F 5E /r: DIVSD xmm1, xmm2/m64 (R674). -/
  | divsd (r : RegNum) (rm : RM)
  /-- F2 0F C2 /r: CMPSD xmm1,xmm2/m64, imm8 (R677). -/
  | cmpsdScalar (r : RegNum) (rm : RM) (b : Byte)
  /-- F2 0F D0 /r: ADDSUBPS xmm1, xmm2/m128 (R675). -/
  | addsubps (r : RegNum) (rm : RM)
  /-- F2 0F E6 /r: CVTPD2DQ xmm1, xmm2/m128 (R676). -/
  | cvtpd2dq (r : RegNum) (rm : RM)
  /-- F3 0F 2A /r: CVTSI2SS xmm,r/m32 (R678). -/
  | cvtsi2ss (r : RegNum) (rm : RM)
  /-- F3 0F 2C /r: CVTTSS2SI r32,xmm/m32 (R679). -/
  | cvttss2si (r : RegNum) (rm : RM)
  /-- F3 0F 2D /r: CVTSS2SI r32,xmm/m32 (R680). -/
  | cvtss2si (r : RegNum) (rm : RM)
  /-- F3 0F 58 /r: ADDSS xmm1, xmm2/m32 (R681). -/
  | addss (r : RegNum) (rm : RM)
  /-- F3 0F 5A /r: CVTSS2SD xmm1, xmm2/m32 (R682). -/
  | cvtss2sd (r : RegNum) (rm : RM)
  /-- F3 0F 5B /r: CVTTPS2DQ xmm1, xmm2/m128 (R683). -/
  | cvttps2dq (r : RegNum) (rm : RM)
  /-- F3 0F 5E /r: DIVSS xmm1,xmm2/m128 (R685). -/
  | divss (r : RegNum) (rm : RM)
  /-- F3 0F C2 /r: CMPSS xmm1,xmm2/m128,imm8 (R684). -/
  | cmpss (r : RegNum) (rm : RM) (b : Byte)
  /-- F3 0F E6 /r: CVTDQ2PD xmm1, xmm2/m64 (R686). -/
  | cvtdq2pd (r : RegNum) (rm : RM)
  /-- 06: PUSH ES (R212). -/
  | pushEs
  /-- 07: POP ES (R217). -/
  | popEs
  /-- 26: ES: (segment-override prefix) (R445). -/
  | overrideEs
  /-- 0E: PUSH CS (R212). -/
  | pushCs
  /-- 2E: CS: (segment-override prefix) (R445). -/
  | overrideCs
  /-- 16: PUSH SS (R212). -/
  | pushSs
  /-- 17: POP SS (R217). -/
  | popSs
  /-- 36: SS: (segment-override prefix) (R445). -/
  | overrideSs
  /-- 1E: PUSH DS (R212). -/
  | pushDs
  /-- 1F: POP DS (R217). -/
  | popDs
  /-- 3E: DS: (segment-override prefix) (R445). -/
  | overrideDs
  /-- 27: DAA (R261). -/
  | daa
  /-- 2F: DAS (R263). -/
  | das
  /-- 37: AAA (R260). -/
  | aaa
  /-- 3F: AAS (R262). -/
  | aas
  /-- 60: PUSHA (R218). -/
  | pusha
  /-- 61: POPA (R219). -/
  | popa
  /-- 90: NOP (R444). -/
  | nop
  /-- 98: CBW (R276). -/
  | cbw
  /-- 99: CWD (R281). -/
  | cwd
  /-- 9B: WAIT (R441). -/
  | wait
  /-- 9C: PUSHF (R230). -/
  | pushf
  /-- 9D: POPF (R231). -/
  | popf
  /-- 9E: SAHF (R233). -/
  | sahf
  /-- 9F: LAHF (R232). -/
  | lahf
  /-- C3: RET (near) (R365). -/
  | ret
  /-- C9: LEAVE (R416). -/
  | leave
  /-- CB: RETF (R367). -/
  | retf
  /-- CC: INT_3 (R411). -/
  | int3
  /-- CE: INTO (R412). -/
  | into
  /-- CF: IRET (R413). -/
  | iret
  /-- D4 0A: AAM (R274). -/
  | aam
  /-- D5 0A: AAD (R275). -/
  | aad
  /-- D6: SETALC (R234). -/
  | setalc
  /-- D7: XLAT (R223). -/
  | xlat
  /-- F0: LOCK (prefix) (R442). -/
  | lock
  /-- F2: REPNE_REPNZ (prefix) (R347). -/
  | repne
  /-- F3: REP_REPE_REPZ (prefix) (R345). -/
  | rep
  /-- F4: HLT (R440). -/
  | hlt
  /-- F5: CMC (R433). -/
  | cmc
  /-- F8: CLC (R430). -/
  | clc
  /-- F9: STC (R431). -/
  | stc
  /-- FA: CLI (R436). -/
  | cli
  /-- FB: STI (R437). -/
  | sti
  /-- FC: CLD (R434). -/
  | cld
  /-- FD: STD (R435). -/
  | std
  /-- D9 E0: FCHS (R472). -/
  | fchs
  /-- D9 E1: FABS (R473). -/
  | fabs
  /-- D9 F0: F2XM1 (R474). -/
  | f2xm1
  /-- D9 F6: FDECSTP (R475). -/
  | fdecstp
  /-- D9 FF: FCOS (R476). -/
  | fcos
  /-- DB E4: FSETPM (R486). -/
  | fsetpm
  /-- DE D9: FCOMPP (R500). -/
  | fcompp
  /-- 9B DB E0: FENI (R505). -/
  | feni
  /-- 9B DB E1: FDISI (R506). -/
  | fdisi
  /-- 9B DB E2: FCLEX (R507). -/
  | fclex
  /-- 0F 01 C8: MONITOR (R521). -/
  | monitor
  /-- 0F 01 C9: MWAIT (R522). -/
  | mwait
  /-- 0F 01 D9: VMMCALL (R523). -/
  | vmmcall
  /-- 0F 01 DC: STGI (R524). -/
  | stgi
  /-- 0F 01 DD: CLGI (R525). -/
  | clgi
  /-- 0F 01 DE: SKINIT EAX (R526). -/
  | skinit
  /-- 0F 01 DF: INVLPGA RAX, ECX (R535). -/
  | invlpga
  /-- 0F 01 F8: SWAPGS (R528). -/
  | swapgs
  /-- 0F 01 F9: RDTSCP (R529). -/
  | rdtscp
  /-- 0F 05: SYSCALL (R530). -/
  | syscall
  /-- 0F 06: CLTS (R531). -/
  | clts
  /-- 0F 07: LOADALL___SYSRET (R532, R533). -/
  | loadallSysret
  /-- 0F 08: WBINVD (R527). -/
  | wbinvd
  /-- 0F 0B: UD2 (R534). -/
  | ud2
  /-- 0F 30: WRMSR (R536). -/
  | wrmsr
  /-- 0F 31: RDTSC (R537). -/
  | rdtsc
  /-- 0F 32: RDMSR (R538). -/
  | rdmsr
  /-- 0F 33: RDPMC (R539). -/
  | rdpmc
  /-- 0F 34: SYSENTER (R540). -/
  | sysenter
  /-- 0F 35: SYSEXIT (R541). -/
  | sysexit
  /-- 0F A0: PUSH FS (R558). -/
  | pushFs
  /-- 0F A1: POP FS (R559). -/
  | popFs
  /-- 0F A2: CPUID (R563). -/
  | cpuid
  /-- 0F A8: PUSH GS (R565). -/
  | pushGs
  /-- 0F A9: POP GS (R566). -/
  | popGs
  /-- 0F AA: RSM (R567). -/
  | rsm
  /-- 0F AE E8: LFENCE (R590). -/
  | lfence
  /-- 0F AE F0: MFENCE (R591). -/
  | mfence
  /-- 0F AE F8: SFENCE (R592). -/
  | sfence
  /-- 0F FF: OIO (R578). -/
  | oio
  /-- F1: SMI___ICEBP (R603, R604). -/
  | smiIcebp
  /-- 66 60: PUSHAD (R580). -/
  | pushad
  /-- 66 61: POPAD (R581). -/
  | popad
  /-- 66 6C: INSD (R582). -/
  | insd
  /-- 66 6F: OUTSD (R583). -/
  | outsd
  /-- 66 98: CWDE (R584). -/
  | cwde
  /-- 66 99: CDQ (R585). -/
  | cdq
  /-- 66 9C: PUSHFD (R586). -/
  | pushfd
  /-- 66 9D: POPFD (R587). -/
  | popfd
  /-- 66 A5: MOVSD (R588). -/
  | movsd
  /-- 66 A7: CMPSD (R589). -/
  | cmpsd
  /-- 66 AB: STOSD (R594). -/
  | stosd
  /-- 66 AD: LODSD (R595). -/
  | lodsd
  /-- 66 AF: SCASD (R596). -/
  | scasd
  /-- F3 90: PAUSE (R609). -/
  | pause
  /-- 0F 0E: FEMMS (R631). -/
  | femms
  /-- 0F 77: EMMS (R642). -/
  | emms
  /-- 64: FS: (segment-override prefix) (R601). -/
  | overrideFs
  /-- 65: GS: (segment-override prefix) (R601). -/
  | overrideGs
  /-- 66: operand-size_byte (prefix; every use refused) (R602). -/
  | operandSize
  deriving DecidableEq, Repr

end Sys2Proof
end

