-- ==== Sys2Proof/WellFormed.lean ====
section
/-! DEFINITION. Which terms of `Instr` are instructions of a level: the level of each row (30_encoding.md R165) and the operand
values that no encoding holds (R131, R180, R443). -/
namespace Sys2Proof

/-- `LEVEL` of each row of the opcode table (00_scope.md R2). -/
def Instr.level : Instr → Level
  | .pusha | .popa | .bound .. | .pushImm .. | .pushImm8 .. | .ins ..
  | .outs .. | .enter .. | .leave => .l186
  | .faddMem .. | .fcomMem .. | .fcompMem .. | .fdivMem .. | .fdivrMem .. | .faddReg ..
  | .fcomReg .. | .fcompReg .. | .fdivReg .. | .fdivrReg .. | .fchs | .fabs
  | .f2xm1 | .fdecstp | .fcos | .fiaddMem .. | .fcmovb .. | .fcmove ..
  | .fcmovbe .. | .fcmovu .. | .fcmovnb .. | .fcmovne .. | .fcmovnbe .. | .fcmovnu ..
  | .fsetpm | .fucomi .. | .fcomi .. | .faddRegSt0 .. | .fdivrRegSt0 .. | .fdivRegSt0 ..
  | .ffree .. | .faddp .. | .fcompp | .fdivrp .. | .fdivp .. | .fbld ..
  | .fbstp .. | .ffreep .. | .fucomip .. | .fcomip .. | .feni | .fdisi
  | .fclex | .monitor | .mwait | .vmmcall | .stgi | .clgi
  | .skinit | .invlpga | .swapgs | .rdtscp | .syscall | .clts
  | .loadallSysret | .wbinvd | .ud2 | .wrmsr | .rdtsc | .rdmsr
  | .rdpmc | .sysenter | .sysexit | .cmovo .. | .cmovno .. | .cmovb ..
  | .cmovnb .. | .cmovz .. | .cmovnz .. | .cmovbe .. | .cmovnbe .. | .cmovs ..
  | .cmovns .. | .cmovp .. | .cmovnp .. | .cmovl .. | .cmovnl .. | .cmovle ..
  | .cmovnle .. | .pushFs | .popFs | .cpuid | .btRmReg .. | .pushGs
  | .popGs | .rsm | .btsRmReg .. | .clflush .. | .lfence | .mfence
  | .sfence | .cmpxchgRm8 .. | .cmpxchgRm16 .. | .btrRmReg .. | .btRmImm .. | .btsRmImm ..
  | .btrRmImm .. | .btcRmImm .. | .btcRmReg .. | .bsf .. | .bsr .. | .cmpxchg8b ..
  | .bswap .. | .oio | .arpl .. | .smiIcebp | .pushad | .popad
  | .insd | .outsd | .cwde | .cdq | .pushfd | .popfd
  | .movsd | .cmpsd | .stosd | .lodsd | .scasd | .crc32 ..
  | .popcnt .. | .pause | .femms | .cvtpi2ps .. | .cvttps2pi .. | .cvtps2pi ..
  | .comiss .. | .andps .. | .andnps .. | .addps .. | .cvtps2pd .. | .cvtdq2ps ..
  | .divps .. | .emms | .cmpps .. | .cvtpi2pd .. | .cvttpd2pi .. | .cvtpd2pi ..
  | .comisd .. | .blendvps .. | .blendvpd .. | .aesimc .. | .aesenc .. | .aesenclast ..
  | .aesdec .. | .aesdeclast .. | .blendps .. | .blendpd .. | .dpps .. | .dppd ..
  | .aeskeygenassist .. | .andpd .. | .andnpd .. | .addpd .. | .cvtpd2ps .. | .cvtps2dq ..
  | .divpd .. | .cmppd .. | .addsubpd .. | .cvttpd2dq .. | .cvtsi2sd .. | .cvttsd2si ..
  | .cvtsd2si .. | .addsd .. | .cvtsd2ss .. | .divsd .. | .cmpsdScalar .. | .addsubps ..
  | .cvtpd2dq .. | .cvtsi2ss .. | .cvttss2si .. | .cvtss2si .. | .addss .. | .cvtss2sd ..
  | .cvttps2dq .. | .divss .. | .cmpss .. | .cvtdq2pd .. | .overrideFs | .overrideGs
  | .operandSize => .lx86
  | .addRmReg .. | .addRegRm .. | .addAcc .. | .addRmImm .. | .addRmImm8 .. | .orRmReg ..
  | .orRegRm .. | .orAcc .. | .orRmImm .. | .adcRmReg .. | .adcRegRm .. | .adcAcc ..
  | .adcRmImm .. | .adcRmImm8 .. | .sbbRmReg .. | .sbbRegRm .. | .sbbAcc .. | .sbbRmImm ..
  | .sbbRmImm8 .. | .andRmReg .. | .andRegRm .. | .andAcc .. | .andRmImm .. | .andRmImm8 ..
  | .subRmReg .. | .subRegRm .. | .subAcc .. | .subRmImm .. | .subRmImm8 .. | .xorRmReg ..
  | .xorRegRm .. | .xorAcc .. | .xorRmImm .. | .cmpRmReg .. | .cmpRegRm .. | .cmpAcc ..
  | .cmpRmImm .. | .cmpRmImm8 .. | .pushEs | .popEs | .overrideEs | .pushCs
  | .overrideCs | .pushSs | .popSs | .overrideSs | .pushDs | .popDs
  | .overrideDs | .daa | .das | .aaa | .aas | .incReg ..
  | .decReg .. | .pushReg .. | .popReg .. | .jo .. | .jno .. | .jb ..
  | .jnb .. | .jz .. | .jnz .. | .jbe .. | .jnbe .. | .js ..
  | .jns .. | .jp .. | .jnp .. | .jl .. | .jnl .. | .jle ..
  | .jnle .. | .testRmReg .. | .xchgRmReg .. | .movRmReg .. | .movRegRm .. | .movRmSreg ..
  | .lea .. | .movSregRm .. | .popRm .. | .nop | .xchgAx .. | .cbw
  | .cwd | .wait | .pushf | .popf | .sahf | .lahf
  | .callFar .. | .movAccMem .. | .movMemAcc .. | .movs .. | .cmps .. | .stos ..
  | .lods .. | .scas .. | .testAcc .. | .movRegImm .. | .retImm .. | .ret
  | .les .. | .lds .. | .movRmImm .. | .retfImm .. | .retf | .int3
  | .intN .. | .into | .iret | .rol .. | .ror .. | .rcl ..
  | .rcr .. | .shl .. | .shr .. | .sar .. | .aam | .aad
  | .setalc | .xlat | .esc .. | .loopne .. | .loope .. | .loop ..
  | .jcxz .. | .inImm .. | .outImm .. | .callNear .. | .jmpNear .. | .jmpFar ..
  | .jmpShort .. | .inDx .. | .outDx .. | .lock | .repne | .rep
  | .hlt | .cmc | .testRmImm .. | .notRm .. | .neg .. | .mul ..
  | .imul .. | .div .. | .idiv .. | .clc | .stc | .cli
  | .sti | .cld | .std | .incRm .. | .decRm .. | .callRm ..
  | .callFarMem .. | .jmpRm .. | .jmpFarMem .. | .pushRm .. => .l8086

/-- mod = 00 with r/m = 110 is the direct address, so no encoding holds BP alone without a displacement (R131). -/
def MemEA.wf : MemEA → Bool
  | .base b => b != .bp
  | .direct _ => true
  | .disp8 _ _ => true
  | .disp16 _ _ => true

/-- A register operand has no check of its own; a memory operand has that of `MemEA.wf`. -/
def RM.wf : RM → Bool
  | .reg _ => true
  | .mem m => m.wf

/-- The ESC encodings that DOC0 names as x87 instructions, read from the rows of 46_x87_escape.md R461 to R511: at level LX86
these are other constructors (45_flag_processor_control.md R443). `t` is TTT, `l` is LLL. -/
def namedX87 (t l : BitVec 3) : RM → Bool
  | .mem _ => match t.toNat, l.toNat with
    | 0, 0 | 0, 2 | 0, 3 | 0, 6 | 0, 7 => true
    | 2, 0 | 6, 0 | 7, 4 | 7, 6 => true
    | 4, 0 | 4, 2 | 4, 3 | 4, 6 | 4, 7 => true
    | _, _ => false
  | .reg r => match t.toNat, l.toNat with
    | 0, 0 | 0, 2 | 0, 3 | 0, 6 | 0, 7 => true
    | 1, 4 => r == .r0 || r == .r1
    | 1, 6 => r == .r0 || r == .r6
    | 1, 7 => r == .r7
    | 2, 0 | 2, 1 | 2, 2 | 2, 3 => true
    | 3, 0 | 3, 1 | 3, 2 | 3, 3 | 3, 5 | 3, 6 => true
    | 3, 4 => r == .r4
    | 4, 0 | 4, 6 | 4, 7 | 5, 0 => true
    | 6, 0 | 6, 6 | 6, 7 => true
    | 6, 3 => r == .r1
    | 7, 0 | 7, 5 | 7, 6 => true
    | _, _ => false

/-- The checks on the operands: BP without a displacement (R131), the second name of NOP (R165: `90` is NOP), MOV to CS
(R180, D30), and at level LX86 the ESC forms with a name of their own (R443). -/
def Instr.operandsWf (lvl : Level) : Instr → Bool
  | .movSregRm sr rm => sr != .cs && rm.wf
  | .xchgAx r => r != .r0
  | .esc t l rm => rm.wf && !(lvl == .lx86 && namedX87 t l rm)
  | .popRm rm | .callRm rm | .jmpRm rm | .pushRm rm => rm.wf
  | .callFarMem m | .jmpFarMem m | .fbld m | .fbstp m | .clflush m | .cmpxchg8b m => m.wf
  | .addRmImm rm _ | .addRmImm8 rm _ | .orRmImm rm _ | .adcRmImm rm _ | .adcRmImm8 rm _ | .sbbRmImm rm _
  | .sbbRmImm8 rm _ | .andRmImm rm _ | .andRmImm8 rm _ | .subRmImm rm _ | .subRmImm8 rm _ | .xorRmImm rm _
  | .cmpRmImm rm _ | .cmpRmImm8 rm _ | .movRmSreg rm _ | .movRmImm rm _ | .testRmImm rm _ | .btRmImm rm _
  | .btsRmImm rm _ | .btrRmImm rm _ | .btcRmImm rm _ => rm.wf
  | .bound _ m | .lea _ m | .les _ m | .lds _ m | .faddMem _ m | .fcomMem _ m
  | .fcompMem _ m | .fdivMem _ m | .fdivrMem _ m | .fiaddMem _ m => m.wf
  | .notRm _ rm | .neg _ rm | .mul _ rm | .imul _ rm | .div _ rm | .idiv _ rm
  | .incRm _ rm | .decRm _ rm | .cmovo _ rm | .cmovno _ rm | .cmovb _ rm | .cmovnb _ rm
  | .cmovz _ rm | .cmovnz _ rm | .cmovbe _ rm | .cmovnbe _ rm | .cmovs _ rm | .cmovns _ rm
  | .cmovp _ rm | .cmovnp _ rm | .cmovl _ rm | .cmovnl _ rm | .cmovle _ rm | .cmovnle _ rm
  | .btRmReg _ rm | .btsRmReg _ rm | .cmpxchgRm8 _ rm | .cmpxchgRm16 _ rm | .btrRmReg _ rm | .btcRmReg _ rm
  | .bsf _ rm | .bsr _ rm | .arpl _ rm | .popcnt _ rm | .cvtpi2ps _ rm | .cvttps2pi _ rm
  | .cvtps2pi _ rm | .comiss _ rm | .andps _ rm | .andnps _ rm | .addps _ rm | .cvtps2pd _ rm
  | .cvtdq2ps _ rm | .divps _ rm | .cvtpi2pd _ rm | .cvttpd2pi _ rm | .cvtpd2pi _ rm | .comisd _ rm
  | .blendvps _ rm | .blendvpd _ rm | .aesimc _ rm | .aesenc _ rm | .aesenclast _ rm | .aesdec _ rm
  | .aesdeclast _ rm | .andpd _ rm | .andnpd _ rm | .addpd _ rm | .cvtpd2ps _ rm | .cvtps2dq _ rm
  | .divpd _ rm | .addsubpd _ rm | .cvttpd2dq _ rm | .cvtsi2sd _ rm | .cvttsd2si _ rm | .cvtsd2si _ rm
  | .addsd _ rm | .cvtsd2ss _ rm | .divsd _ rm | .addsubps _ rm | .cvtpd2dq _ rm | .cvtsi2ss _ rm
  | .cvttss2si _ rm | .cvtss2si _ rm | .addss _ rm | .cvtss2sd _ rm | .cvttps2dq _ rm | .divss _ rm
  | .cvtdq2pd _ rm => rm.wf
  | .addRmReg _ rm _ | .orRmReg _ rm _ | .adcRmReg _ rm _ | .sbbRmReg _ rm _ | .andRmReg _ rm _ | .subRmReg _ rm _
  | .xorRmReg _ rm _ | .cmpRmReg _ rm _ | .testRmReg _ rm _ | .xchgRmReg _ rm _ | .movRmReg _ rm _ | .cmpps _ rm _
  | .blendps _ rm _ | .blendpd _ rm _ | .dpps _ rm _ | .dppd _ rm _ | .aeskeygenassist _ rm _ | .cmppd _ rm _
  | .cmpsdScalar _ rm _ | .cmpss _ rm _ => rm.wf
  | .addRegRm _ _ rm | .orRegRm _ _ rm | .adcRegRm _ _ rm | .sbbRegRm _ _ rm | .andRegRm _ _ rm | .subRegRm _ _ rm
  | .xorRegRm _ _ rm | .cmpRegRm _ _ rm | .movRegRm _ _ rm | .rol _ _ rm | .ror _ _ rm | .rcl _ _ rm
  | .rcr _ _ rm | .shl _ _ rm | .shr _ _ rm | .sar _ _ rm | .crc32 _ _ rm => rm.wf
  | .pushEs | .popEs | .overrideEs | .pushCs | .overrideCs | .pushSs
  | .popSs | .overrideSs | .pushDs | .popDs | .overrideDs | .daa
  | .das | .aaa | .aas | .pusha | .popa | .nop
  | .cbw | .cwd | .wait | .pushf | .popf | .sahf
  | .lahf | .ret | .leave | .retf | .int3 | .into
  | .iret | .aam | .aad | .setalc | .xlat | .lock
  | .repne | .rep | .hlt | .cmc | .clc | .stc
  | .cli | .sti | .cld | .std | .fchs | .fabs
  | .f2xm1 | .fdecstp | .fcos | .fsetpm | .fcompp | .feni
  | .fdisi | .fclex | .monitor | .mwait | .vmmcall | .stgi
  | .clgi | .skinit | .invlpga | .swapgs | .rdtscp | .syscall
  | .clts | .loadallSysret | .wbinvd | .ud2 | .wrmsr | .rdtsc
  | .rdmsr | .rdpmc | .sysenter | .sysexit | .pushFs | .popFs
  | .cpuid | .pushGs | .popGs | .rsm | .lfence | .mfence
  | .sfence | .oio | .smiIcebp | .pushad | .popad | .insd
  | .outsd | .cwde | .cdq | .pushfd | .popfd | .movsd
  | .cmpsd | .stosd | .lodsd | .scasd | .pause | .femms
  | .emms | .overrideFs | .overrideGs | .operandSize => true
  | .addAcc _ | .orAcc _ | .adcAcc _ | .sbbAcc _ | .andAcc _ | .subAcc _
  | .xorAcc _ | .cmpAcc _ | .incReg _ | .decReg _ | .pushReg _ | .popReg _
  | .pushImm _ | .pushImm8 _ | .ins _ | .outs _ | .jo _ | .jno _
  | .jb _ | .jnb _ | .jz _ | .jnz _ | .jbe _ | .jnbe _
  | .js _ | .jns _ | .jp _ | .jnp _ | .jl _ | .jnl _
  | .jle _ | .jnle _ | .movs _ | .cmps _ | .stos _ | .lods _
  | .scas _ | .testAcc _ | .retImm _ | .retfImm _ | .intN _ | .loopne _
  | .loope _ | .loop _ | .jcxz _ | .callNear _ | .jmpNear _ | .jmpShort _
  | .inDx _ | .outDx _ | .faddReg _ | .fcomReg _ | .fcompReg _ | .fdivReg _
  | .fdivrReg _ | .fcmovb _ | .fcmove _ | .fcmovbe _ | .fcmovu _ | .fcmovnb _
  | .fcmovne _ | .fcmovnbe _ | .fcmovnu _ | .fucomi _ | .fcomi _ | .faddRegSt0 _
  | .fdivrRegSt0 _ | .fdivRegSt0 _ | .ffree _ | .faddp _ | .fdivrp _ | .fdivp _
  | .ffreep _ | .fucomip _ | .fcomip _ | .bswap _ => true
  | .callFar _ _ | .movAccMem _ _ | .movMemAcc _ _ | .movRegImm _ _ | .enter _ _ | .inImm _ _
  | .outImm _ _ | .jmpFar _ _ => true

/-- An instruction of level `lvl`: the level holds its row, and an encoding holds its operands. -/
def Instr.wf (lvl : Level) (i : Instr) : Bool := lvl.includes i.level && i.operandsWf lvl

end Sys2Proof
end

