-- ==== Sys2Proof/Decode.lean ====
section
/-! DEFINITION. The decoder, total on any bytes, refusing by name (30_encoding.md R120 to R182), and after it the encoder. -/
namespace Sys2Proof

open Machine (lowByte highByte wordOf)

/-- Why the decoder gives no instruction. All are safe: the model stops where the spec gives no meaning. -/
inductive DecodeError where
  /-- The bytes end before the instruction does: raised by every field read. -/
  | truncated
  /-- The first byte, or a two-byte or three-byte opcode, is in no row at this level (R180, R181). -/
  | unlistedOpcode
  /-- The extension field of a group names no row (R172 to R176, R180). -/
  | unlistedExtension
  /-- A memory-only instruction with mod = 11 (R180). -/
  | registerForm
  /-- MOV to or from a segment register with bit 5 of the ModR/M byte set (R180, D31). -/
  | segmentField
  /-- MOV CS, r/m16 (R180, D30). -/
  | movToCs
  /-- AAM or AAD with a second byte other than 0Ah (R180, D28). -/
  | adjustBase
  deriving DecidableEq, Repr

/-- A reader of instruction bytes: it answers a value and the bytes it left, or why it gives none. -/
abbrev Decoder (α : Type) := StateT (List Byte) (Except DecodeError) α

/-- Refuse an encoding by name. -/
def Decoder.refuse {α : Type} (e : DecodeError) : Decoder α := fun _ => .error e

/-- `Fetch8` of R121. -/
def Decoder.byte : Decoder Byte
  | [] => .error .truncated
  | b :: bs => .ok (b, bs)

/-- `Fetch16` of R121: the low byte first. -/
def Decoder.word : Decoder Word
  | lo :: hi :: bs => .ok (wordOf lo hi, bs)
  | _ => .error .truncated

/-- The register number of a 3-bit field (10_state.md R30). -/
def RegNum.ofBits (b : BitVec 3) : RegNum :=
  match b.toNat with
  | 0 => .r0 | 1 => .r1 | 2 => .r2 | 3 => .r3 | 4 => .r4 | 5 => .r5 | 6 => .r6 | _ => .r7

/-- The 3-bit field of a register number (10_state.md R30). -/
def RegNum.toBits : RegNum → BitVec 3
  | .r0 => 0 | .r1 => 1 | .r2 => 2 | .r3 => 3 | .r4 => 4 | .r5 => 5 | .r6 => 6 | .r7 => 7

/-- The base of a 3-bit r/m field (R133). -/
def Base.ofBits (b : BitVec 3) : Base :=
  match b.toNat with
  | 0 => .bxsi | 1 => .bxdi | 2 => .bpsi | 3 => .bpdi | 4 => .si | 5 => .di | 6 => .bp | _ => .bx

/-- The 3-bit r/m field of a base (R133). -/
def Base.toBits : Base → BitVec 3
  | .bxsi => 0 | .bxdi => 1 | .bpsi => 2 | .bpdi => 3 | .si => 4 | .di => 5 | .bp => 6 | .bx => 7

/-- The segment register of a 2-bit field (10_state.md R34). -/
def SReg.ofBits (b : BitVec 2) : SReg :=
  match b.toNat with
  | 0 => .es | 1 => .cs | 2 => .ss | _ => .ds

/-- The 2-bit field of a segment register (10_state.md R34). -/
def SReg.toBits : SReg → BitVec 2
  | .es => 0 | .cs => 1 | .ss => 2 | .ds => 3

/-- The ModR/M byte of its three fields (R130). -/
def modRMByte (mode : BitVec 2) (reg rm : BitVec 3) : Byte := mode ++ reg ++ rm

/-- The ModR/M byte and the displacement it calls for (R130 to R133, R135): the reg field and the r/m operand. -/
def Decoder.modRM : Decoder (RegNum × RM) := do
  let b ← byte
  let reg := RegNum.ofBits (b.extractLsb' 3 3)
  let rm := b.extractLsb' 0 3
  match (b.extractLsb' 6 2).toNat with
  | 0 =>
    if rm = 6 then return (reg, .mem (.direct (← word)))
    else return (reg, .mem (.base (Base.ofBits rm)))
  | 1 => return (reg, .mem (.disp8 (Base.ofBits rm) (← byte)))
  | 2 => return (reg, .mem (.disp16 (Base.ofBits rm) (← word)))
  | _ => return (reg, .reg (RegNum.ofBits rm))

/-- The memory operand of a memory-only instruction: mod = 11 is refused (R180). -/
def Decoder.memOnly : RM → Decoder MemEA
  | .mem m => pure m
  | .reg _ => refuse .registerForm

/-- The segment-register field of 8Ch and 8Eh: bit 5 of the ModR/M byte must be 0 (R160 F_MODRM_SREG, D31). -/
def Decoder.sreg (reg : RegNum) : Decoder SReg :=
  match reg with
  | .r0 => pure .es | .r1 => pure .cs | .r2 => pure .ss | .r3 => pure .ds
  | .r4 | .r5 | .r6 | .r7 => refuse .segmentField

/-- An immediate of the operand's size (R150). -/
def Decoder.imm : Width → Decoder Imm
  | .byte => do return .ib (← byte)
  | .word => do return .iw (← word)

namespace Decoder

/-- Group 1, 80h and 81h (R172). -/
def group1 (w : Width) : Decoder Instr := do
  let (x, rm) ← modRM
  let i ← imm w
  match x with
  | .r0 => return .addRmImm rm i
  | .r1 => return .orRmImm rm i
  | .r2 => return .adcRmImm rm i
  | .r3 => return .sbbRmImm rm i
  | .r4 => return .andRmImm rm i
  | .r5 => return .subRmImm rm i
  | .r6 => return .xorRmImm rm i
  | .r7 => return .cmpRmImm rm i

/-- Group 1, 83h: /1 and /6 are in no source (R172). -/
def group1Sign : Decoder Instr := do
  let (x, rm) ← modRM
  match x with
  | .r0 => return .addRmImm8 rm (← byte)
  | .r2 => return .adcRmImm8 rm (← byte)
  | .r3 => return .sbbRmImm8 rm (← byte)
  | .r4 => return .andRmImm8 rm (← byte)
  | .r5 => return .subRmImm8 rm (← byte)
  | .r7 => return .cmpRmImm8 rm (← byte)
  | .r1 | .r6 => refuse .unlistedExtension

/-- Group 2, D0h to D3h (R173). -/
def group2 (w : Width) (n : ShiftBy) : Decoder Instr := do
  let (x, rm) ← modRM
  match x with
  | .r0 => return .rol w n rm
  | .r1 => return .ror w n rm
  | .r2 => return .rcl w n rm
  | .r3 => return .rcr w n rm
  | .r4 => return .shl w n rm
  | .r5 => return .shr w n rm
  | .r6 => refuse .unlistedExtension
  | .r7 => return .sar w n rm

/-- Group 3, F6h and F7h (R174). -/
def group3 (w : Width) : Decoder Instr := do
  let (x, rm) ← modRM
  match x with
  | .r0 => return .testRmImm rm (← imm w)
  | .r1 => refuse .unlistedExtension
  | .r2 => return .notRm w rm
  | .r3 => return .neg w rm
  | .r4 => return .mul w rm
  | .r5 => return .imul w rm
  | .r6 => return .div w rm
  | .r7 => return .idiv w rm

/-- Group 4, FEh (R176). -/
def group4 : Decoder Instr := do
  let (x, rm) ← modRM
  match x with
  | .r0 => return .incRm .byte rm
  | .r1 => return .decRm .byte rm
  | .r2 | .r3 | .r4 | .r5 | .r6 | .r7 => refuse .unlistedExtension

/-- Group 5, FFh (R176). -/
def group5 : Decoder Instr := do
  let (x, rm) ← modRM
  match x with
  | .r0 => return .incRm .word rm
  | .r1 => return .decRm .word rm
  | .r2 => return .callRm rm
  | .r3 => return .callFarMem (← memOnly rm)
  | .r4 => return .jmpRm rm
  | .r5 => return .jmpFarMem (← memOnly rm)
  | .r6 => return .pushRm rm
  | .r7 => refuse .unlistedExtension

/-- A row of level L186: refused below it (R165). -/
def at186 (lvl : Level) (d : Decoder Instr) : Decoder Instr :=
  match lvl with
  | .l8086 => refuse .unlistedOpcode
  | .l186 | .lx86 => d

/-- A row of level LX86: refused below it (R165, R175). -/
def atX86 (lvl : Level) (d : Decoder Instr) : Decoder Instr :=
  match lvl with
  | .l8086 | .l186 => refuse .unlistedOpcode
  | .lx86 => d

/-- The x87 instructions that DOC0 names among the ESC encodings (46_x87_escape.md R461 to R511), by TTT and LLL. -/
def x87 (t : BitVec 3) (l : RegNum) : RM → Option Instr
  | .mem m => match t.toNat, l with
    | 0, .r0 => some (.faddMem .m32 m)
    | 0, .r2 => some (.fcomMem .m32 m)
    | 0, .r3 => some (.fcompMem .m32 m)
    | 0, .r6 => some (.fdivMem .m32 m)
    | 0, .r7 => some (.fdivrMem .m32 m)
    | 2, .r0 => some (.fiaddMem .m32 m)
    | 4, .r0 => some (.faddMem .alt m)
    | 4, .r2 => some (.fcomMem .alt m)
    | 4, .r3 => some (.fcompMem .alt m)
    | 4, .r6 => some (.fdivMem .alt m)
    | 4, .r7 => some (.fdivrMem .alt m)
    | 6, .r0 => some (.fiaddMem .alt m)
    | 7, .r4 => some (.fbld m)
    | 7, .r6 => some (.fbstp m)
    | _, _ => none
  | .reg r => match t.toNat, l, r with
    | 1, .r4, .r0 => some .fchs
    | 1, .r4, .r1 => some .fabs
    | 1, .r6, .r0 => some .f2xm1
    | 1, .r6, .r6 => some .fdecstp
    | 1, .r7, .r7 => some .fcos
    | 3, .r4, .r4 => some .fsetpm
    | 6, .r3, .r1 => some .fcompp
    | 0, .r0, r => some (.faddReg r)
    | 0, .r2, r => some (.fcomReg r)
    | 0, .r3, r => some (.fcompReg r)
    | 0, .r6, r => some (.fdivReg r)
    | 0, .r7, r => some (.fdivrReg r)
    | 2, .r0, r => some (.fcmovb r)
    | 2, .r1, r => some (.fcmove r)
    | 2, .r2, r => some (.fcmovbe r)
    | 2, .r3, r => some (.fcmovu r)
    | 3, .r0, r => some (.fcmovnb r)
    | 3, .r1, r => some (.fcmovne r)
    | 3, .r2, r => some (.fcmovnbe r)
    | 3, .r3, r => some (.fcmovnu r)
    | 3, .r5, r => some (.fucomi r)
    | 3, .r6, r => some (.fcomi r)
    | 4, .r0, r => some (.faddRegSt0 r)
    | 4, .r6, r => some (.fdivrRegSt0 r)
    | 4, .r7, r => some (.fdivRegSt0 r)
    | 5, .r0, r => some (.ffree r)
    | 6, .r0, r => some (.faddp r)
    | 6, .r6, r => some (.fdivrp r)
    | 6, .r7, r => some (.fdivp r)
    | 7, .r0, r => some (.ffreep r)
    | 7, .r5, r => some (.fucomip r)
    | 7, .r6, r => some (.fcomip r)
    | _, _, _ => none

/-- D8h to DFh: ESC, or at level LX86 the x87 instruction of that encoding (R175; 45_flag_processor_control.md R443). -/
def escape (lvl : Level) (t : BitVec 3) : Decoder Instr := do
  let (l, rm) ← modRM
  match lvl with
  | .l8086 | .l186 => return .esc t l.toBits rm
  | .lx86 => return (x87 t l rm).getD (.esc t l.toBits rm)

/-- 9Bh: WAIT, or at level LX86 the x87 instruction that begins with it (46_x87_escape.md R505 to R507). -/
def waitOr (lvl : Level) : Decoder Instr := do
  match lvl, ← get with
  | .lx86, [b] => if b = 0xDB then refuse .truncated else return .wait
  | .lx86, b :: c :: bs =>
    if b = 0xDB then
      match c.toNat with
      | 0xE0 => do set bs; return .feni
      | 0xE1 => do set bs; return .fdisi
      | 0xE2 => do set bs; return .fclex
      | _ => return .wait
    else return .wait
  | _, _ => return .wait

/-- The rows 0Fh 01h xxh (47_x86_ext_integer_system.md R521 to R535). -/
def map0F01 : Decoder Instr := do
  match (← byte).toNat with
  | 0xC8 => return .monitor
  | 0xC9 => return .mwait
  | 0xD9 => return .vmmcall
  | 0xDC => return .stgi
  | 0xDD => return .clgi
  | 0xDE => return .skinit
  | 0xDF => return .invlpga
  | 0xF8 => return .swapgs
  | 0xF9 => return .rdtscp
  | _ => refuse .unlistedOpcode

/-- The rows 0Fh AEh: CLFLUSH and the fences (47_x86_ext_integer_system.md R590 to R593). -/
def map0FAE : Decoder Instr := do
  match ← modRM with
  | (.r7, .mem m) => return .clflush m
  | (.r5, .reg .r0) => return .lfence
  | (.r6, .reg .r0) => return .mfence
  | (.r7, .reg .r0) => return .sfence
  | _ => refuse .unlistedExtension

/-- The rows 0Fh BAh /4 to /7 (47_x86_ext_integer_system.md R570 to R573). -/
def map0FBA : Decoder Instr := do
  let (x, rm) ← modRM
  match x with
  | .r4 => return .btRmImm rm (← byte)
  | .r5 => return .btsRmImm rm (← byte)
  | .r6 => return .btrRmImm rm (← byte)
  | .r7 => return .btcRmImm rm (← byte)
  | .r0 | .r1 | .r2 | .r3 => refuse .unlistedExtension

/-- The row 0Fh C7h /1 (47_x86_ext_integer_system.md R562). -/
def map0FC7 : Decoder Instr := do
  let (x, rm) ← modRM
  match x with
  | .r1 => return .cmpxchg8b (← memOnly rm)
  | .r0 | .r2 | .r3 | .r4 | .r5 | .r6 | .r7 => refuse .unlistedExtension

/-- The two-byte rows 0Fh xxh of level LX86 (R175), by the second byte. -/
def map0F : Decoder Instr := do
  match (← byte).toNat with
  | 0x01 => map0F01
  | 0xAE => map0FAE
  | 0xBA => map0FBA
  | 0xC7 => map0FC7
  | 0x05 => return .syscall
  | 0x06 => return .clts
  | 0x07 => return .loadallSysret
  | 0x08 => return .wbinvd
  | 0x0B => return .ud2
  | 0x0E => return .femms
  | 0x2A => do let (r, rm) ← modRM; return .cvtpi2ps r rm
  | 0x2C => do let (r, rm) ← modRM; return .cvttps2pi r rm
  | 0x2D => do let (r, rm) ← modRM; return .cvtps2pi r rm
  | 0x2F => do let (r, rm) ← modRM; return .comiss r rm
  | 0x30 => return .wrmsr
  | 0x31 => return .rdtsc
  | 0x32 => return .rdmsr
  | 0x33 => return .rdpmc
  | 0x34 => return .sysenter
  | 0x35 => return .sysexit
  | 0x40 => do let (r, rm) ← modRM; return .cmovo r rm
  | 0x41 => do let (r, rm) ← modRM; return .cmovno r rm
  | 0x42 => do let (r, rm) ← modRM; return .cmovb r rm
  | 0x43 => do let (r, rm) ← modRM; return .cmovnb r rm
  | 0x44 => do let (r, rm) ← modRM; return .cmovz r rm
  | 0x45 => do let (r, rm) ← modRM; return .cmovnz r rm
  | 0x46 => do let (r, rm) ← modRM; return .cmovbe r rm
  | 0x47 => do let (r, rm) ← modRM; return .cmovnbe r rm
  | 0x48 => do let (r, rm) ← modRM; return .cmovs r rm
  | 0x49 => do let (r, rm) ← modRM; return .cmovns r rm
  | 0x4A => do let (r, rm) ← modRM; return .cmovp r rm
  | 0x4B => do let (r, rm) ← modRM; return .cmovnp r rm
  | 0x4C => do let (r, rm) ← modRM; return .cmovl r rm
  | 0x4D => do let (r, rm) ← modRM; return .cmovnl r rm
  | 0x4E => do let (r, rm) ← modRM; return .cmovle r rm
  | 0x4F => do let (r, rm) ← modRM; return .cmovnle r rm
  | 0x54 => do let (r, rm) ← modRM; return .andps r rm
  | 0x55 => do let (r, rm) ← modRM; return .andnps r rm
  | 0x58 => do let (r, rm) ← modRM; return .addps r rm
  | 0x5A => do let (r, rm) ← modRM; return .cvtps2pd r rm
  | 0x5B => do let (r, rm) ← modRM; return .cvtdq2ps r rm
  | 0x5E => do let (r, rm) ← modRM; return .divps r rm
  | 0x77 => return .emms
  | 0xA0 => return .pushFs
  | 0xA1 => return .popFs
  | 0xA2 => return .cpuid
  | 0xA3 => do let (r, rm) ← modRM; return .btRmReg r rm
  | 0xA8 => return .pushGs
  | 0xA9 => return .popGs
  | 0xAA => return .rsm
  | 0xAB => do let (r, rm) ← modRM; return .btsRmReg r rm
  | 0xB0 => do let (r, rm) ← modRM; return .cmpxchgRm8 r rm
  | 0xB1 => do let (r, rm) ← modRM; return .cmpxchgRm16 r rm
  | 0xB3 => do let (r, rm) ← modRM; return .btrRmReg r rm
  | 0xBB => do let (r, rm) ← modRM; return .btcRmReg r rm
  | 0xBC => do let (r, rm) ← modRM; return .bsf r rm
  | 0xBD => do let (r, rm) ← modRM; return .bsr r rm
  | 0xC2 => do let (r, rm) ← modRM; return .cmpps r rm (← byte)
  | 0xFF => return .oio
  | 0xC8 => return .bswap .r0
  | 0xC9 => return .bswap .r1
  | 0xCA => return .bswap .r2
  | 0xCB => return .bswap .r3
  | 0xCC => return .bswap .r4
  | 0xCD => return .bswap .r5
  | 0xCE => return .bswap .r6
  | 0xCF => return .bswap .r7
  | _ => refuse .unlistedOpcode

/-- The rows 66h xxh of level LX86 (R144; 47_x86_ext_integer_system.md R580 to R596), by the second byte. -/
def rows66 : Nat → Option (Decoder Instr)
  | 0x60 => some (return .pushad)
  | 0x61 => some (return .popad)
  | 0x6C => some (return .insd)
  | 0x6F => some (return .outsd)
  | 0x98 => some (return .cwde)
  | 0x99 => some (return .cdq)
  | 0x9C => some (return .pushfd)
  | 0x9D => some (return .popfd)
  | 0xA5 => some (return .movsd)
  | 0xA7 => some (return .cmpsd)
  | 0xAB => some (return .stosd)
  | 0xAD => some (return .lodsd)
  | 0xAF => some (return .scasd)
  | _ => none

/-- The rows 66h 0Fh xxh (R144; 48_x86_ext_simd.md R644 to R668), by the third byte. -/
def rows660F : Nat → Option (Decoder Instr)
  | 0x2A => some (do let (r, rm) ← modRM; return .cvtpi2pd r rm)
  | 0x2C => some (do let (r, rm) ← modRM; return .cvttpd2pi r rm)
  | 0x2D => some (do let (r, rm) ← modRM; return .cvtpd2pi r rm)
  | 0x2F => some (do let (r, rm) ← modRM; return .comisd r rm)
  | 0x54 => some (do let (r, rm) ← modRM; return .andpd r rm)
  | 0x55 => some (do let (r, rm) ← modRM; return .andnpd r rm)
  | 0x58 => some (do let (r, rm) ← modRM; return .addpd r rm)
  | 0x5A => some (do let (r, rm) ← modRM; return .cvtpd2ps r rm)
  | 0x5B => some (do let (r, rm) ← modRM; return .cvtps2dq r rm)
  | 0x5E => some (do let (r, rm) ← modRM; return .divpd r rm)
  | 0xC2 => some (do let (r, rm) ← modRM; return .cmppd r rm (← byte))
  | 0xD0 => some (do let (r, rm) ← modRM; return .addsubpd r rm)
  | 0xE6 => some (do let (r, rm) ← modRM; return .cvttpd2dq r rm)
  | _ => none

/-- The rows 66h 0Fh 38h xxh (48_x86_ext_simd.md R648 to R654), by the fourth byte. -/
def rows660F38 : Nat → Option (Decoder Instr)
  | 0x14 => some (do let (r, rm) ← modRM; return .blendvps r rm)
  | 0x15 => some (do let (r, rm) ← modRM; return .blendvpd r rm)
  | 0xDB => some (do let (r, rm) ← modRM; return .aesimc r rm)
  | 0xDC => some (do let (r, rm) ← modRM; return .aesenc r rm)
  | 0xDD => some (do let (r, rm) ← modRM; return .aesenclast r rm)
  | 0xDE => some (do let (r, rm) ← modRM; return .aesdec r rm)
  | 0xDF => some (do let (r, rm) ← modRM; return .aesdeclast r rm)
  | _ => none

/-- The rows 66h 0Fh 3Ah xxh (48_x86_ext_simd.md R655 to R659), by the fourth byte. -/
def rows660F3A : Nat → Option (Decoder Instr)
  | 0x0C => some (do let (r, rm) ← modRM; return .blendps r rm (← byte))
  | 0x0D => some (do let (r, rm) ← modRM; return .blendpd r rm (← byte))
  | 0x40 => some (do let (r, rm) ← modRM; return .dpps r rm (← byte))
  | 0x41 => some (do let (r, rm) ← modRM; return .dppd r rm (← byte))
  | 0xDF => some (do let (r, rm) ← modRM; return .aeskeygenassist r rm (← byte))
  | _ => none

/-- The rows F2h 0Fh xxh (R144; 48_x86_ext_simd.md R669 to R677), by the third byte. -/
def rowsF20F : Nat → Option (Decoder Instr)
  | 0x2A => some (do let (r, rm) ← modRM; return .cvtsi2sd r rm)
  | 0x2C => some (do let (r, rm) ← modRM; return .cvttsd2si r rm)
  | 0x2D => some (do let (r, rm) ← modRM; return .cvtsd2si r rm)
  | 0x58 => some (do let (r, rm) ← modRM; return .addsd r rm)
  | 0x5A => some (do let (r, rm) ← modRM; return .cvtsd2ss r rm)
  | 0x5E => some (do let (r, rm) ← modRM; return .divsd r rm)
  | 0xC2 => some (do let (r, rm) ← modRM; return .cmpsdScalar r rm (← byte))
  | 0xD0 => some (do let (r, rm) ← modRM; return .addsubps r rm)
  | 0xE6 => some (do let (r, rm) ← modRM; return .cvtpd2dq r rm)
  | _ => none

/-- The rows F2h 0Fh 38h xxh (47_x86_ext_integer_system.md R606, R607), by the fourth byte. -/
def rowsF20F38 : Nat → Option (Decoder Instr)
  | 0xF0 => some (do let (r, rm) ← modRM; return .crc32 .byte r rm)
  | 0xF1 => some (do let (r, rm) ← modRM; return .crc32 .word r rm)
  | _ => none

/-- The rows F3h 0Fh xxh (R144; 48_x86_ext_simd.md R678 to R686), by the third byte. -/
def rowsF30F : Nat → Option (Decoder Instr)
  | 0x2A => some (do let (r, rm) ← modRM; return .cvtsi2ss r rm)
  | 0x2C => some (do let (r, rm) ← modRM; return .cvttss2si r rm)
  | 0x2D => some (do let (r, rm) ← modRM; return .cvtss2si r rm)
  | 0x58 => some (do let (r, rm) ← modRM; return .addss r rm)
  | 0x5A => some (do let (r, rm) ← modRM; return .cvtss2sd r rm)
  | 0x5B => some (do let (r, rm) ← modRM; return .cvttps2dq r rm)
  | 0x5E => some (do let (r, rm) ← modRM; return .divss r rm)
  | 0xB8 => some (do let (r, rm) ← modRM; return .popcnt r rm)
  | 0xC2 => some (do let (r, rm) ← modRM; return .cmpss r rm (← byte))
  | 0xE6 => some (do let (r, rm) ← modRM; return .cvtdq2pd r rm)
  | _ => none

/-- The row F3h 90h, PAUSE (47_x86_ext_integer_system.md R609). -/
def rowsF3 : Nat → Option (Decoder Instr)
  | 0x90 => some (return .pause)
  | _ => none

/-- No row. -/
def noRows : Nat → Option (Decoder Instr) := fun _ => none

/-- A byte that is a prefix by itself and at level LX86 also the first byte of longer rows: the longest row that matches wins
(R165), else the byte is `alone` (DEDUCED, entry 12). -/
def opcodeSelecting (alone : Instr) (rows1 rows0F rows0F38 rows0F3A : Nat → Option (Decoder Instr)) : Decoder Instr := do
  match ← get with
  | [] => return alone
  | b1 :: bs1 =>
    match rows1 b1.toNat with
    | some d => do set bs1; d
    | none =>
      if b1 = 0x0F then
        match bs1 with
        | [] => return alone
        | b2 :: bs2 =>
          match rows0F b2.toNat, bs2 with
          | some d, _ => do set bs2; d
          | none, [] => return alone
          | none, b3 :: bs3 =>
            match (if b2 = 0x38 then rows0F38 b3.toNat else if b2 = 0x3A then rows0F3A b3.toNat else none) with
            | some d => do set bs3; d
            | none => return alone
      else return alone

/-- 66h at level LX86 (R144, R175). -/
def map66 : Decoder Instr := opcodeSelecting .operandSize rows66 rows660F rows660F38 rows660F3A

/-- F2h: the REPNE prefix, or at level LX86 the first byte of a longer row (R142, R144). -/
def mapF2 : Level → Decoder Instr
  | .l8086 | .l186 => return .repne
  | .lx86 => opcodeSelecting .repne noRows rowsF20F rowsF20F38 noRows

/-- F3h: the REP prefix, or at level LX86 the first byte of a longer row (R142, R144). -/
def mapF3 : Level → Decoder Instr
  | .l8086 | .l186 => return .rep
  | .lx86 => opcodeSelecting .rep rowsF3 rowsF30F noRows noRows

/-- First bytes 00h to 0Fh (R170), by the low four bits. -/
def map0 (lvl : Level) : Nat → Decoder Instr
  | 0x0 => do let (r, rm) ← modRM; return .addRmReg .byte rm r
  | 0x1 => do let (r, rm) ← modRM; return .addRmReg .word rm r
  | 0x2 => do let (r, rm) ← modRM; return .addRegRm .byte r rm
  | 0x3 => do let (r, rm) ← modRM; return .addRegRm .word r rm
  | 0x4 => do return .addAcc (← imm .byte)
  | 0x5 => do return .addAcc (← imm .word)
  | 0x6 => return .pushEs
  | 0x7 => return .popEs
  | 0x8 => do let (r, rm) ← modRM; return .orRmReg .byte rm r
  | 0x9 => do let (r, rm) ← modRM; return .orRmReg .word rm r
  | 0xA => do let (r, rm) ← modRM; return .orRegRm .byte r rm
  | 0xB => do let (r, rm) ← modRM; return .orRegRm .word r rm
  | 0xC => do return .orAcc (← imm .byte)
  | 0xD => do return .orAcc (← imm .word)
  | 0xE => return .pushCs
  | 0xF => atX86 lvl map0F
  | _ => refuse .unlistedOpcode

/-- First bytes 10h to 1Fh (R170), by the low four bits. -/
def map1 (_lvl : Level) : Nat → Decoder Instr
  | 0x0 => do let (r, rm) ← modRM; return .adcRmReg .byte rm r
  | 0x1 => do let (r, rm) ← modRM; return .adcRmReg .word rm r
  | 0x2 => do let (r, rm) ← modRM; return .adcRegRm .byte r rm
  | 0x3 => do let (r, rm) ← modRM; return .adcRegRm .word r rm
  | 0x4 => do return .adcAcc (← imm .byte)
  | 0x5 => do return .adcAcc (← imm .word)
  | 0x6 => return .pushSs
  | 0x7 => return .popSs
  | 0x8 => do let (r, rm) ← modRM; return .sbbRmReg .byte rm r
  | 0x9 => do let (r, rm) ← modRM; return .sbbRmReg .word rm r
  | 0xA => do let (r, rm) ← modRM; return .sbbRegRm .byte r rm
  | 0xB => do let (r, rm) ← modRM; return .sbbRegRm .word r rm
  | 0xC => do return .sbbAcc (← imm .byte)
  | 0xD => do return .sbbAcc (← imm .word)
  | 0xE => return .pushDs
  | 0xF => return .popDs
  | _ => refuse .unlistedOpcode

/-- First bytes 20h to 2Fh (R170), by the low four bits. -/
def map2 (_lvl : Level) : Nat → Decoder Instr
  | 0x0 => do let (r, rm) ← modRM; return .andRmReg .byte rm r
  | 0x1 => do let (r, rm) ← modRM; return .andRmReg .word rm r
  | 0x2 => do let (r, rm) ← modRM; return .andRegRm .byte r rm
  | 0x3 => do let (r, rm) ← modRM; return .andRegRm .word r rm
  | 0x4 => do return .andAcc (← imm .byte)
  | 0x5 => do return .andAcc (← imm .word)
  | 0x6 => return .overrideEs
  | 0x7 => return .daa
  | 0x8 => do let (r, rm) ← modRM; return .subRmReg .byte rm r
  | 0x9 => do let (r, rm) ← modRM; return .subRmReg .word rm r
  | 0xA => do let (r, rm) ← modRM; return .subRegRm .byte r rm
  | 0xB => do let (r, rm) ← modRM; return .subRegRm .word r rm
  | 0xC => do return .subAcc (← imm .byte)
  | 0xD => do return .subAcc (← imm .word)
  | 0xE => return .overrideCs
  | 0xF => return .das
  | _ => refuse .unlistedOpcode

/-- First bytes 30h to 3Fh (R170), by the low four bits. -/
def map3 (_lvl : Level) : Nat → Decoder Instr
  | 0x0 => do let (r, rm) ← modRM; return .xorRmReg .byte rm r
  | 0x1 => do let (r, rm) ← modRM; return .xorRmReg .word rm r
  | 0x2 => do let (r, rm) ← modRM; return .xorRegRm .byte r rm
  | 0x3 => do let (r, rm) ← modRM; return .xorRegRm .word r rm
  | 0x4 => do return .xorAcc (← imm .byte)
  | 0x5 => do return .xorAcc (← imm .word)
  | 0x6 => return .overrideSs
  | 0x7 => return .aaa
  | 0x8 => do let (r, rm) ← modRM; return .cmpRmReg .byte rm r
  | 0x9 => do let (r, rm) ← modRM; return .cmpRmReg .word rm r
  | 0xA => do let (r, rm) ← modRM; return .cmpRegRm .byte r rm
  | 0xB => do let (r, rm) ← modRM; return .cmpRegRm .word r rm
  | 0xC => do return .cmpAcc (← imm .byte)
  | 0xD => do return .cmpAcc (← imm .word)
  | 0xE => return .overrideDs
  | 0xF => return .aas
  | _ => refuse .unlistedOpcode

/-- First bytes 40h to 4Fh (R170), by the low four bits. -/
def map4 (_lvl : Level) : Nat → Decoder Instr
  | 0x0 => return .incReg .r0
  | 0x1 => return .incReg .r1
  | 0x2 => return .incReg .r2
  | 0x3 => return .incReg .r3
  | 0x4 => return .incReg .r4
  | 0x5 => return .incReg .r5
  | 0x6 => return .incReg .r6
  | 0x7 => return .incReg .r7
  | 0x8 => return .decReg .r0
  | 0x9 => return .decReg .r1
  | 0xA => return .decReg .r2
  | 0xB => return .decReg .r3
  | 0xC => return .decReg .r4
  | 0xD => return .decReg .r5
  | 0xE => return .decReg .r6
  | 0xF => return .decReg .r7
  | _ => refuse .unlistedOpcode

/-- First bytes 50h to 5Fh (R170), by the low four bits. -/
def map5 (_lvl : Level) : Nat → Decoder Instr
  | 0x0 => return .pushReg .r0
  | 0x1 => return .pushReg .r1
  | 0x2 => return .pushReg .r2
  | 0x3 => return .pushReg .r3
  | 0x4 => return .pushReg .r4
  | 0x5 => return .pushReg .r5
  | 0x6 => return .pushReg .r6
  | 0x7 => return .pushReg .r7
  | 0x8 => return .popReg .r0
  | 0x9 => return .popReg .r1
  | 0xA => return .popReg .r2
  | 0xB => return .popReg .r3
  | 0xC => return .popReg .r4
  | 0xD => return .popReg .r5
  | 0xE => return .popReg .r6
  | 0xF => return .popReg .r7
  | _ => refuse .unlistedOpcode

/-- First bytes 60h to 6Fh (R170), by the low four bits. -/
def map6 (lvl : Level) : Nat → Decoder Instr
  | 0x0 => at186 lvl (return .pusha)
  | 0x1 => at186 lvl (return .popa)
  | 0x2 => at186 lvl (do let (r, rm) ← modRM; return .bound r (← memOnly rm))
  | 0x3 => atX86 lvl (do let (r, rm) ← modRM; return .arpl r rm)
  | 0x4 => atX86 lvl (return .overrideFs)
  | 0x5 => atX86 lvl (return .overrideGs)
  | 0x6 => atX86 lvl map66
  | 0x8 => at186 lvl (return .pushImm (← word))
  | 0xA => at186 lvl (return .pushImm8 (← byte))
  | 0xC => at186 lvl (return .ins .byte)
  | 0xD => at186 lvl (return .ins .word)
  | 0xE => at186 lvl (return .outs .byte)
  | 0xF => at186 lvl (return .outs .word)
  | _ => refuse .unlistedOpcode

/-- First bytes 70h to 7Fh (R170), by the low four bits. -/
def map7 (_lvl : Level) : Nat → Decoder Instr
  | 0x0 => do return .jo (← byte)
  | 0x1 => do return .jno (← byte)
  | 0x2 => do return .jb (← byte)
  | 0x3 => do return .jnb (← byte)
  | 0x4 => do return .jz (← byte)
  | 0x5 => do return .jnz (← byte)
  | 0x6 => do return .jbe (← byte)
  | 0x7 => do return .jnbe (← byte)
  | 0x8 => do return .js (← byte)
  | 0x9 => do return .jns (← byte)
  | 0xA => do return .jp (← byte)
  | 0xB => do return .jnp (← byte)
  | 0xC => do return .jl (← byte)
  | 0xD => do return .jnl (← byte)
  | 0xE => do return .jle (← byte)
  | 0xF => do return .jnle (← byte)
  | _ => refuse .unlistedOpcode

/-- First bytes 80h to 8Fh (R170), by the low four bits. -/
def map8 (_lvl : Level) : Nat → Decoder Instr
  | 0x0 => group1 .byte
  | 0x1 => group1 .word
  | 0x3 => group1Sign
  | 0x4 => do let (r, rm) ← modRM; return .testRmReg .byte rm r
  | 0x5 => do let (r, rm) ← modRM; return .testRmReg .word rm r
  | 0x6 => do let (r, rm) ← modRM; return .xchgRmReg .byte rm r
  | 0x7 => do let (r, rm) ← modRM; return .xchgRmReg .word rm r
  | 0x8 => do let (r, rm) ← modRM; return .movRmReg .byte rm r
  | 0x9 => do let (r, rm) ← modRM; return .movRmReg .word rm r
  | 0xA => do let (r, rm) ← modRM; return .movRegRm .byte r rm
  | 0xB => do let (r, rm) ← modRM; return .movRegRm .word r rm
  | 0xC => do let (r, rm) ← modRM; return .movRmSreg rm (← sreg r)
  | 0xD => do let (r, rm) ← modRM; return .lea r (← memOnly rm)
  | 0xE => do let (r, rm) ← modRM; match ← sreg r with | .cs => refuse .movToCs | sr => return .movSregRm sr rm
  | 0xF => do match ← modRM with | (.r0, rm) => return .popRm rm | _ => refuse .unlistedExtension
  | _ => refuse .unlistedOpcode

/-- First bytes 90h to 9Fh (R170), by the low four bits. -/
def map9 (lvl : Level) : Nat → Decoder Instr
  | 0x0 => return .nop
  | 0x1 => return .xchgAx .r1
  | 0x2 => return .xchgAx .r2
  | 0x3 => return .xchgAx .r3
  | 0x4 => return .xchgAx .r4
  | 0x5 => return .xchgAx .r5
  | 0x6 => return .xchgAx .r6
  | 0x7 => return .xchgAx .r7
  | 0x8 => return .cbw
  | 0x9 => return .cwd
  | 0xA => do let off ← word; return .callFar off (← word)
  | 0xB => waitOr lvl
  | 0xC => return .pushf
  | 0xD => return .popf
  | 0xE => return .sahf
  | 0xF => return .lahf
  | _ => refuse .unlistedOpcode

/-- First bytes A0h to AFh (R170), by the low four bits. -/
def mapA (_lvl : Level) : Nat → Decoder Instr
  | 0x0 => do return .movAccMem .byte (← word)
  | 0x1 => do return .movAccMem .word (← word)
  | 0x2 => do return .movMemAcc .byte (← word)
  | 0x3 => do return .movMemAcc .word (← word)
  | 0x4 => return .movs .byte
  | 0x5 => return .movs .word
  | 0x6 => return .cmps .byte
  | 0x7 => return .cmps .word
  | 0x8 => do return .testAcc (← imm .byte)
  | 0x9 => do return .testAcc (← imm .word)
  | 0xA => return .stos .byte
  | 0xB => return .stos .word
  | 0xC => return .lods .byte
  | 0xD => return .lods .word
  | 0xE => return .scas .byte
  | 0xF => return .scas .word
  | _ => refuse .unlistedOpcode

/-- First bytes B0h to BFh (R170), by the low four bits. -/
def mapB (_lvl : Level) : Nat → Decoder Instr
  | 0x0 => do return .movRegImm .r0 (← imm .byte)
  | 0x1 => do return .movRegImm .r1 (← imm .byte)
  | 0x2 => do return .movRegImm .r2 (← imm .byte)
  | 0x3 => do return .movRegImm .r3 (← imm .byte)
  | 0x4 => do return .movRegImm .r4 (← imm .byte)
  | 0x5 => do return .movRegImm .r5 (← imm .byte)
  | 0x6 => do return .movRegImm .r6 (← imm .byte)
  | 0x7 => do return .movRegImm .r7 (← imm .byte)
  | 0x8 => do return .movRegImm .r0 (← imm .word)
  | 0x9 => do return .movRegImm .r1 (← imm .word)
  | 0xA => do return .movRegImm .r2 (← imm .word)
  | 0xB => do return .movRegImm .r3 (← imm .word)
  | 0xC => do return .movRegImm .r4 (← imm .word)
  | 0xD => do return .movRegImm .r5 (← imm .word)
  | 0xE => do return .movRegImm .r6 (← imm .word)
  | 0xF => do return .movRegImm .r7 (← imm .word)
  | _ => refuse .unlistedOpcode

/-- First bytes C0h to CFh (R170), by the low four bits. -/
def mapC (lvl : Level) : Nat → Decoder Instr
  | 0x2 => do return .retImm (← word)
  | 0x3 => return .ret
  | 0x4 => do let (r, rm) ← modRM; return .les r (← memOnly rm)
  | 0x5 => do let (r, rm) ← modRM; return .lds r (← memOnly rm)
  | 0x6 => do match ← modRM with | (.r0, rm) => return .movRmImm rm (← imm .byte) | _ => refuse .unlistedExtension
  | 0x7 => do match ← modRM with | (.r0, rm) => return .movRmImm rm (← imm .word) | _ => refuse .unlistedExtension
  | 0x8 => at186 lvl (do let v ← word; return .enter v (← byte))
  | 0x9 => at186 lvl (return .leave)
  | 0xA => do return .retfImm (← word)
  | 0xB => return .retf
  | 0xC => return .int3
  | 0xD => do return .intN (← byte)
  | 0xE => return .into
  | 0xF => return .iret
  | _ => refuse .unlistedOpcode

/-- First bytes D0h to DFh (R170), by the low four bits. -/
def mapD (lvl : Level) : Nat → Decoder Instr
  | 0x0 => group2 .byte .one
  | 0x1 => group2 .word .one
  | 0x2 => group2 .byte .cl
  | 0x3 => group2 .word .cl
  | 0x4 => do match (← byte).toNat with | 0x0A => return .aam | _ => refuse .adjustBase
  | 0x5 => do match (← byte).toNat with | 0x0A => return .aad | _ => refuse .adjustBase
  | 0x6 => return .setalc
  | 0x7 => return .xlat
  | 0x8 => escape lvl 0
  | 0x9 => escape lvl 1
  | 0xA => escape lvl 2
  | 0xB => escape lvl 3
  | 0xC => escape lvl 4
  | 0xD => escape lvl 5
  | 0xE => escape lvl 6
  | 0xF => escape lvl 7
  | _ => refuse .unlistedOpcode

/-- First bytes E0h to EFh (R170), by the low four bits. -/
def mapE (_lvl : Level) : Nat → Decoder Instr
  | 0x0 => do return .loopne (← byte)
  | 0x1 => do return .loope (← byte)
  | 0x2 => do return .loop (← byte)
  | 0x3 => do return .jcxz (← byte)
  | 0x4 => do return .inImm .byte (← byte)
  | 0x5 => do return .inImm .word (← byte)
  | 0x6 => do return .outImm .byte (← byte)
  | 0x7 => do return .outImm .word (← byte)
  | 0x8 => do return .callNear (← word)
  | 0x9 => do return .jmpNear (← word)
  | 0xA => do let off ← word; return .jmpFar off (← word)
  | 0xB => do return .jmpShort (← byte)
  | 0xC => return .inDx .byte
  | 0xD => return .inDx .word
  | 0xE => return .outDx .byte
  | 0xF => return .outDx .word
  | _ => refuse .unlistedOpcode

/-- First bytes F0h to FFh (R170), by the low four bits. -/
def mapF (lvl : Level) : Nat → Decoder Instr
  | 0x0 => return .lock
  | 0x1 => atX86 lvl (return .smiIcebp)
  | 0x2 => mapF2 lvl
  | 0x3 => mapF3 lvl
  | 0x4 => return .hlt
  | 0x5 => return .cmc
  | 0x6 => group3 .byte
  | 0x7 => group3 .word
  | 0x8 => return .clc
  | 0x9 => return .stc
  | 0xA => return .cli
  | 0xB => return .sti
  | 0xC => return .cld
  | 0xD => return .std
  | 0xE => group4
  | 0xF => group5
  | _ => refuse .unlistedOpcode

/-- The opcode map of the first byte (R170), by its high four bits. -/
def opcodeMap (lvl : Level) (b : Byte) : Decoder Instr :=
  match b.toNat / 16 with
  | 0x0 => map0 lvl (b.toNat % 16)
  | 0x1 => map1 lvl (b.toNat % 16)
  | 0x2 => map2 lvl (b.toNat % 16)
  | 0x3 => map3 lvl (b.toNat % 16)
  | 0x4 => map4 lvl (b.toNat % 16)
  | 0x5 => map5 lvl (b.toNat % 16)
  | 0x6 => map6 lvl (b.toNat % 16)
  | 0x7 => map7 lvl (b.toNat % 16)
  | 0x8 => map8 lvl (b.toNat % 16)
  | 0x9 => map9 lvl (b.toNat % 16)
  | 0xA => mapA lvl (b.toNat % 16)
  | 0xB => mapB lvl (b.toNat % 16)
  | 0xC => mapC lvl (b.toNat % 16)
  | 0xD => mapD lvl (b.toNat % 16)
  | 0xE => mapE lvl (b.toNat % 16)
  | _ => mapF lvl (b.toNat % 16)

end Decoder

/-- The instruction at the start of a byte sequence, and the bytes after it. A prefix byte is an `Instr` of its own: the
decoder reads one byte of it (R123 step 1 is done by the steps of the machine; entry 9). -/
def decode (lvl : Level) (bs : List Byte) : Except DecodeError (Instr × List Byte) :=
  (do Decoder.opcodeMap lvl (← Decoder.byte)) bs

/-- The `n` bytes of a word numbered as the opcode table numbers it: byte 0 is its least significant byte. -/
def bytesOfNat : Nat → Nat → List Byte
  | 0, _ => []
  | n + 1, w => BitVec.ofNat 8 w :: bytesOfNat n (w / 256)

/-- The most bytes an instruction has, prefixes apart: 66h 0Fh 3Ah xxh, ModR/M, two bytes of displacement, one immediate. -/
def maxLength : Nat := 8

/-- The bytes of a table word: its own `nbits / 8` bytes, then zeros up to the longest instruction. -/
def tableBytes (nbits w : Nat) : List Byte := bytesOfNat maxLength (w % 2 ^ nbits)

/-- The instruction that the decoder reads, at the level that has every row, from an instruction of the opcode table. -/
def decodeTableWord (nbits w : Nat) : Option Instr :=
  match decode .lx86 (tableBytes nbits w) with
  | .ok (i, _) => some i
  | .error _ => none

/-! ### The encoder -/

namespace Encoder

/-- The two bytes of a word in an instruction, low first (20_memory.md R81). -/
def word (v : Word) : List Byte := [lowByte v, highByte v]

/-- An immediate (R150). -/
def imm : Imm → List Byte
  | .ib b => [b]
  | .iw v => word v

/-- The size of an immediate (R150). -/
def immWidth : Imm → Width
  | .ib _ => .byte
  | .iw _ => .word

/-- An opcode with its w bit in bit 0 (R125). -/
def opW (op : Byte) (w : Width) : Byte :=
  match w with
  | .byte => op
  | .word => op ||| 1

/-- An opcode that embeds a register number (R128). -/
def opR (op : Byte) (r : RegNum) : Byte := op ||| r.toBits.setWidth 8

/-- The ModR/M byte and the displacement of an operand (R130 to R135). -/
def modRM (reg : RegNum) : RM → List Byte
  | .reg r => [modRMByte 3 reg.toBits r.toBits]
  | .mem (.direct off) => modRMByte 0 reg.toBits 6 :: word off
  | .mem (.base b) => [modRMByte 0 reg.toBits b.toBits]
  | .mem (.disp8 b d) => [modRMByte 1 reg.toBits b.toBits, d]
  | .mem (.disp16 b d) => modRMByte 2 reg.toBits b.toBits :: word d

/-- The reg field of a segment register (R160 F_MODRM_SREG). -/
def sregField : SReg → RegNum
  | .es => .r0 | .cs => .r1 | .ss => .r2 | .ds => .r3

/-- Opcodes D0h to D3h: bit 1 is the v bit (R173). -/
def opShift (n : ShiftBy) (w : Width) : Byte :=
  match n with
  | .one => opW 0xD0 w
  | .cl => opW 0xD2 w

end Encoder

open Encoder in
/-- The bytes of an instruction, from the same rows of the opcode table. -/
def encode : Instr → List Byte
  | .addRmReg w rm r => opW 0x00 w :: modRM r rm
  | .addRegRm w r rm => opW 0x02 w :: modRM r rm
  | .addAcc imm => opW 0x04 (immWidth imm) :: Encoder.imm imm
  | .addRmImm rm imm => opW 0x80 (immWidth imm) :: (modRM .r0 rm ++ Encoder.imm imm)
  | .addRmImm8 rm b => 0x83 :: (modRM .r0 rm ++ [b])
  | .orRmReg w rm r => opW 0x08 w :: modRM r rm
  | .orRegRm w r rm => opW 0x0A w :: modRM r rm
  | .orAcc imm => opW 0x0C (immWidth imm) :: Encoder.imm imm
  | .orRmImm rm imm => opW 0x80 (immWidth imm) :: (modRM .r1 rm ++ Encoder.imm imm)
  | .adcRmReg w rm r => opW 0x10 w :: modRM r rm
  | .adcRegRm w r rm => opW 0x12 w :: modRM r rm
  | .adcAcc imm => opW 0x14 (immWidth imm) :: Encoder.imm imm
  | .adcRmImm rm imm => opW 0x80 (immWidth imm) :: (modRM .r2 rm ++ Encoder.imm imm)
  | .adcRmImm8 rm b => 0x83 :: (modRM .r2 rm ++ [b])
  | .sbbRmReg w rm r => opW 0x18 w :: modRM r rm
  | .sbbRegRm w r rm => opW 0x1A w :: modRM r rm
  | .sbbAcc imm => opW 0x1C (immWidth imm) :: Encoder.imm imm
  | .sbbRmImm rm imm => opW 0x80 (immWidth imm) :: (modRM .r3 rm ++ Encoder.imm imm)
  | .sbbRmImm8 rm b => 0x83 :: (modRM .r3 rm ++ [b])
  | .andRmReg w rm r => opW 0x20 w :: modRM r rm
  | .andRegRm w r rm => opW 0x22 w :: modRM r rm
  | .andAcc imm => opW 0x24 (immWidth imm) :: Encoder.imm imm
  | .andRmImm rm imm => opW 0x80 (immWidth imm) :: (modRM .r4 rm ++ Encoder.imm imm)
  | .andRmImm8 rm b => 0x83 :: (modRM .r4 rm ++ [b])
  | .subRmReg w rm r => opW 0x28 w :: modRM r rm
  | .subRegRm w r rm => opW 0x2A w :: modRM r rm
  | .subAcc imm => opW 0x2C (immWidth imm) :: Encoder.imm imm
  | .subRmImm rm imm => opW 0x80 (immWidth imm) :: (modRM .r5 rm ++ Encoder.imm imm)
  | .subRmImm8 rm b => 0x83 :: (modRM .r5 rm ++ [b])
  | .xorRmReg w rm r => opW 0x30 w :: modRM r rm
  | .xorRegRm w r rm => opW 0x32 w :: modRM r rm
  | .xorAcc imm => opW 0x34 (immWidth imm) :: Encoder.imm imm
  | .xorRmImm rm imm => opW 0x80 (immWidth imm) :: (modRM .r6 rm ++ Encoder.imm imm)
  | .cmpRmReg w rm r => opW 0x38 w :: modRM r rm
  | .cmpRegRm w r rm => opW 0x3A w :: modRM r rm
  | .cmpAcc imm => opW 0x3C (immWidth imm) :: Encoder.imm imm
  | .cmpRmImm rm imm => opW 0x80 (immWidth imm) :: (modRM .r7 rm ++ Encoder.imm imm)
  | .cmpRmImm8 rm b => 0x83 :: (modRM .r7 rm ++ [b])
  | .pushEs => [0x06]
  | .popEs => [0x07]
  | .overrideEs => [0x26]
  | .pushCs => [0x0E]
  | .overrideCs => [0x2E]
  | .pushSs => [0x16]
  | .popSs => [0x17]
  | .overrideSs => [0x36]
  | .pushDs => [0x1E]
  | .popDs => [0x1F]
  | .overrideDs => [0x3E]
  | .daa => [0x27]
  | .das => [0x2F]
  | .aaa => [0x37]
  | .aas => [0x3F]
  | .incReg r => [opR 0x40 r]
  | .decReg r => [opR 0x48 r]
  | .pushReg r => [opR 0x50 r]
  | .popReg r => [opR 0x58 r]
  | .pusha => [0x60]
  | .popa => [0x61]
  | .bound r m => 0x62 :: modRM r (.mem m)
  | .pushImm v => 0x68 :: Encoder.word v
  | .pushImm8 b => [0x6A, b]
  | .ins w => [opW 0x6C w]
  | .outs w => [opW 0x6E w]
  | .jo b => [0x70, b]
  | .jno b => [0x71, b]
  | .jb b => [0x72, b]
  | .jnb b => [0x73, b]
  | .jz b => [0x74, b]
  | .jnz b => [0x75, b]
  | .jbe b => [0x76, b]
  | .jnbe b => [0x77, b]
  | .js b => [0x78, b]
  | .jns b => [0x79, b]
  | .jp b => [0x7A, b]
  | .jnp b => [0x7B, b]
  | .jl b => [0x7C, b]
  | .jnl b => [0x7D, b]
  | .jle b => [0x7E, b]
  | .jnle b => [0x7F, b]
  | .testRmReg w rm r => opW 0x84 w :: modRM r rm
  | .xchgRmReg w rm r => opW 0x86 w :: modRM r rm
  | .movRmReg w rm r => opW 0x88 w :: modRM r rm
  | .movRegRm w r rm => opW 0x8A w :: modRM r rm
  | .movRmSreg rm sr => 0x8C :: modRM (sregField sr) rm
  | .lea r m => 0x8D :: modRM r (.mem m)
  | .movSregRm sr rm => 0x8E :: modRM (sregField sr) rm
  | .popRm rm => 0x8F :: modRM .r0 rm
  | .nop => [0x90]
  | .xchgAx r => [opR 0x90 r]
  | .cbw => [0x98]
  | .cwd => [0x99]
  | .wait => [0x9B]
  | .pushf => [0x9C]
  | .popf => [0x9D]
  | .sahf => [0x9E]
  | .lahf => [0x9F]
  | .callFar off seg => 0x9A :: (Encoder.word off ++ Encoder.word seg)
  | .movAccMem w off => opW 0xA0 w :: Encoder.word off
  | .movMemAcc w off => opW 0xA2 w :: Encoder.word off
  | .movs w => [opW 0xA4 w]
  | .cmps w => [opW 0xA6 w]
  | .stos w => [opW 0xAA w]
  | .lods w => [opW 0xAC w]
  | .scas w => [opW 0xAE w]
  | .testAcc imm => opW 0xA8 (immWidth imm) :: Encoder.imm imm
  | .movRegImm r imm => opR (match immWidth imm with | .byte => 0xB0 | .word => 0xB8) r :: Encoder.imm imm
  | .retImm v => 0xC2 :: Encoder.word v
  | .ret => [0xC3]
  | .les r m => 0xC4 :: modRM r (.mem m)
  | .lds r m => 0xC5 :: modRM r (.mem m)
  | .movRmImm rm imm => opW 0xC6 (immWidth imm) :: (modRM .r0 rm ++ Encoder.imm imm)
  | .enter v b => 0xC8 :: (Encoder.word v ++ [b])
  | .leave => [0xC9]
  | .retfImm v => 0xCA :: Encoder.word v
  | .retf => [0xCB]
  | .int3 => [0xCC]
  | .intN b => [0xCD, b]
  | .into => [0xCE]
  | .iret => [0xCF]
  | .rol w n rm => opShift n w :: modRM .r0 rm
  | .ror w n rm => opShift n w :: modRM .r1 rm
  | .rcl w n rm => opShift n w :: modRM .r2 rm
  | .rcr w n rm => opShift n w :: modRM .r3 rm
  | .shl w n rm => opShift n w :: modRM .r4 rm
  | .shr w n rm => opShift n w :: modRM .r5 rm
  | .sar w n rm => opShift n w :: modRM .r7 rm
  | .aam => [0xD4, 0x0A]
  | .aad => [0xD5, 0x0A]
  | .setalc => [0xD6]
  | .xlat => [0xD7]
  | .esc t l rm => (0xD8 ||| t.setWidth 8) :: modRM (RegNum.ofBits l) rm
  | .loopne b => [0xE0, b]
  | .loope b => [0xE1, b]
  | .loop b => [0xE2, b]
  | .jcxz b => [0xE3, b]
  | .inImm w b => [opW 0xE4 w, b]
  | .outImm w b => [opW 0xE6 w, b]
  | .callNear v => 0xE8 :: Encoder.word v
  | .jmpNear v => 0xE9 :: Encoder.word v
  | .jmpFar off seg => 0xEA :: (Encoder.word off ++ Encoder.word seg)
  | .jmpShort b => [0xEB, b]
  | .inDx w => [opW 0xEC w]
  | .outDx w => [opW 0xEE w]
  | .lock => [0xF0]
  | .repne => [0xF2]
  | .rep => [0xF3]
  | .hlt => [0xF4]
  | .cmc => [0xF5]
  | .testRmImm rm imm => opW 0xF6 (immWidth imm) :: (modRM .r0 rm ++ Encoder.imm imm)
  | .notRm w rm => opW 0xF6 w :: modRM .r2 rm
  | .neg w rm => opW 0xF6 w :: modRM .r3 rm
  | .mul w rm => opW 0xF6 w :: modRM .r4 rm
  | .imul w rm => opW 0xF6 w :: modRM .r5 rm
  | .div w rm => opW 0xF6 w :: modRM .r6 rm
  | .idiv w rm => opW 0xF6 w :: modRM .r7 rm
  | .clc => [0xF8]
  | .stc => [0xF9]
  | .cli => [0xFA]
  | .sti => [0xFB]
  | .cld => [0xFC]
  | .std => [0xFD]
  | .incRm w rm => opW 0xFE w :: modRM .r0 rm
  | .decRm w rm => opW 0xFE w :: modRM .r1 rm
  | .callRm rm => 0xFF :: modRM .r2 rm
  | .callFarMem m => 0xFF :: modRM .r3 (.mem m)
  | .jmpRm rm => 0xFF :: modRM .r4 rm
  | .jmpFarMem m => 0xFF :: modRM .r5 (.mem m)
  | .pushRm rm => 0xFF :: modRM .r6 rm
  | .faddMem z m => (match z with | .m32 => 0xD8 | .alt => 0xDC) :: modRM .r0 (.mem m)
  | .fcomMem z m => (match z with | .m32 => 0xD8 | .alt => 0xDC) :: modRM .r2 (.mem m)
  | .fcompMem z m => (match z with | .m32 => 0xD8 | .alt => 0xDC) :: modRM .r3 (.mem m)
  | .fdivMem z m => (match z with | .m32 => 0xD8 | .alt => 0xDC) :: modRM .r6 (.mem m)
  | .fdivrMem z m => (match z with | .m32 => 0xD8 | .alt => 0xDC) :: modRM .r7 (.mem m)
  | .faddReg r => [0xD8, opR 0xC0 r]
  | .fcomReg r => [0xD8, opR 0xD0 r]
  | .fcompReg r => [0xD8, opR 0xD8 r]
  | .fdivReg r => [0xD8, opR 0xF0 r]
  | .fdivrReg r => [0xD8, opR 0xF8 r]
  | .fchs => [0xD9, 0xE0]
  | .fabs => [0xD9, 0xE1]
  | .f2xm1 => [0xD9, 0xF0]
  | .fdecstp => [0xD9, 0xF6]
  | .fcos => [0xD9, 0xFF]
  | .fiaddMem z m => (match z with | .m32 => 0xDA | .alt => 0xDE) :: modRM .r0 (.mem m)
  | .fcmovb r => [0xDA, opR 0xC0 r]
  | .fcmove r => [0xDA, opR 0xC8 r]
  | .fcmovbe r => [0xDA, opR 0xD0 r]
  | .fcmovu r => [0xDA, opR 0xD8 r]
  | .fcmovnb r => [0xDB, opR 0xC0 r]
  | .fcmovne r => [0xDB, opR 0xC8 r]
  | .fcmovnbe r => [0xDB, opR 0xD0 r]
  | .fcmovnu r => [0xDB, opR 0xD8 r]
  | .fsetpm => [0xDB, 0xE4]
  | .fucomi r => [0xDB, opR 0xE8 r]
  | .fcomi r => [0xDB, opR 0xF0 r]
  | .faddRegSt0 r => [0xDC, opR 0xC0 r]
  | .fdivrRegSt0 r => [0xDC, opR 0xF0 r]
  | .fdivRegSt0 r => [0xDC, opR 0xF8 r]
  | .ffree r => [0xDD, opR 0xC0 r]
  | .faddp r => [0xDE, opR 0xC0 r]
  | .fcompp => [0xDE, 0xD9]
  | .fdivrp r => [0xDE, opR 0xF0 r]
  | .fdivp r => [0xDE, opR 0xF8 r]
  | .fbld m => 0xDF :: modRM .r4 (.mem m)
  | .fbstp m => 0xDF :: modRM .r6 (.mem m)
  | .ffreep r => [0xDF, opR 0xC0 r]
  | .fucomip r => [0xDF, opR 0xE8 r]
  | .fcomip r => [0xDF, opR 0xF0 r]
  | .feni => [0x9B, 0xDB, 0xE0]
  | .fdisi => [0x9B, 0xDB, 0xE1]
  | .fclex => [0x9B, 0xDB, 0xE2]
  | .monitor => [0x0F, 0x01, 0xC8]
  | .mwait => [0x0F, 0x01, 0xC9]
  | .vmmcall => [0x0F, 0x01, 0xD9]
  | .stgi => [0x0F, 0x01, 0xDC]
  | .clgi => [0x0F, 0x01, 0xDD]
  | .skinit => [0x0F, 0x01, 0xDE]
  | .invlpga => [0x0F, 0x01, 0xDF]
  | .swapgs => [0x0F, 0x01, 0xF8]
  | .rdtscp => [0x0F, 0x01, 0xF9]
  | .syscall => [0x0F, 0x05]
  | .clts => [0x0F, 0x06]
  | .loadallSysret => [0x0F, 0x07]
  | .wbinvd => [0x0F, 0x08]
  | .ud2 => [0x0F, 0x0B]
  | .wrmsr => [0x0F, 0x30]
  | .rdtsc => [0x0F, 0x31]
  | .rdmsr => [0x0F, 0x32]
  | .rdpmc => [0x0F, 0x33]
  | .sysenter => [0x0F, 0x34]
  | .sysexit => [0x0F, 0x35]
  | .cmovo r rm => 0x0F :: 0x40 :: modRM r rm
  | .cmovno r rm => 0x0F :: 0x41 :: modRM r rm
  | .cmovb r rm => 0x0F :: 0x42 :: modRM r rm
  | .cmovnb r rm => 0x0F :: 0x43 :: modRM r rm
  | .cmovz r rm => 0x0F :: 0x44 :: modRM r rm
  | .cmovnz r rm => 0x0F :: 0x45 :: modRM r rm
  | .cmovbe r rm => 0x0F :: 0x46 :: modRM r rm
  | .cmovnbe r rm => 0x0F :: 0x47 :: modRM r rm
  | .cmovs r rm => 0x0F :: 0x48 :: modRM r rm
  | .cmovns r rm => 0x0F :: 0x49 :: modRM r rm
  | .cmovp r rm => 0x0F :: 0x4A :: modRM r rm
  | .cmovnp r rm => 0x0F :: 0x4B :: modRM r rm
  | .cmovl r rm => 0x0F :: 0x4C :: modRM r rm
  | .cmovnl r rm => 0x0F :: 0x4D :: modRM r rm
  | .cmovle r rm => 0x0F :: 0x4E :: modRM r rm
  | .cmovnle r rm => 0x0F :: 0x4F :: modRM r rm
  | .pushFs => [0x0F, 0xA0]
  | .popFs => [0x0F, 0xA1]
  | .cpuid => [0x0F, 0xA2]
  | .btRmReg r rm => 0x0F :: 0xA3 :: modRM r rm
  | .pushGs => [0x0F, 0xA8]
  | .popGs => [0x0F, 0xA9]
  | .rsm => [0x0F, 0xAA]
  | .btsRmReg r rm => 0x0F :: 0xAB :: modRM r rm
  | .clflush m => 0x0F :: 0xAE :: modRM .r7 (.mem m)
  | .lfence => [0x0F, 0xAE, 0xE8]
  | .mfence => [0x0F, 0xAE, 0xF0]
  | .sfence => [0x0F, 0xAE, 0xF8]
  | .cmpxchgRm8 r rm => 0x0F :: 0xB0 :: modRM r rm
  | .cmpxchgRm16 r rm => 0x0F :: 0xB1 :: modRM r rm
  | .btrRmReg r rm => 0x0F :: 0xB3 :: modRM r rm
  | .btRmImm rm b => 0x0F :: 0xBA :: (modRM .r4 rm ++ [b])
  | .btsRmImm rm b => 0x0F :: 0xBA :: (modRM .r5 rm ++ [b])
  | .btrRmImm rm b => 0x0F :: 0xBA :: (modRM .r6 rm ++ [b])
  | .btcRmImm rm b => 0x0F :: 0xBA :: (modRM .r7 rm ++ [b])
  | .btcRmReg r rm => 0x0F :: 0xBB :: modRM r rm
  | .bsf r rm => 0x0F :: 0xBC :: modRM r rm
  | .bsr r rm => 0x0F :: 0xBD :: modRM r rm
  | .cmpxchg8b m => 0x0F :: 0xC7 :: modRM .r1 (.mem m)
  | .bswap r => [0x0F, opR 0xC8 r]
  | .oio => [0x0F, 0xFF]
  | .arpl r rm => 0x63 :: modRM r rm
  | .smiIcebp => [0xF1]
  | .pushad => [0x66, 0x60]
  | .popad => [0x66, 0x61]
  | .insd => [0x66, 0x6C]
  | .outsd => [0x66, 0x6F]
  | .cwde => [0x66, 0x98]
  | .cdq => [0x66, 0x99]
  | .pushfd => [0x66, 0x9C]
  | .popfd => [0x66, 0x9D]
  | .movsd => [0x66, 0xA5]
  | .cmpsd => [0x66, 0xA7]
  | .stosd => [0x66, 0xAB]
  | .lodsd => [0x66, 0xAD]
  | .scasd => [0x66, 0xAF]
  | .crc32 w r rm => 0xF2 :: 0x0F :: 0x38 :: opW 0xF0 w :: modRM r rm
  | .popcnt r rm => 0xF3 :: 0x0F :: 0xB8 :: modRM r rm
  | .pause => [0xF3, 0x90]
  | .femms => [0x0F, 0x0E]
  | .cvtpi2ps r rm => 0x0F :: 0x2A :: modRM r rm
  | .cvttps2pi r rm => 0x0F :: 0x2C :: modRM r rm
  | .cvtps2pi r rm => 0x0F :: 0x2D :: modRM r rm
  | .comiss r rm => 0x0F :: 0x2F :: modRM r rm
  | .andps r rm => 0x0F :: 0x54 :: modRM r rm
  | .andnps r rm => 0x0F :: 0x55 :: modRM r rm
  | .addps r rm => 0x0F :: 0x58 :: modRM r rm
  | .cvtps2pd r rm => 0x0F :: 0x5A :: modRM r rm
  | .cvtdq2ps r rm => 0x0F :: 0x5B :: modRM r rm
  | .divps r rm => 0x0F :: 0x5E :: modRM r rm
  | .emms => [0x0F, 0x77]
  | .cmpps r rm b => 0x0F :: 0xC2 :: (modRM r rm ++ [b])
  | .cvtpi2pd r rm => 0x66 :: 0x0F :: 0x2A :: modRM r rm
  | .cvttpd2pi r rm => 0x66 :: 0x0F :: 0x2C :: modRM r rm
  | .cvtpd2pi r rm => 0x66 :: 0x0F :: 0x2D :: modRM r rm
  | .comisd r rm => 0x66 :: 0x0F :: 0x2F :: modRM r rm
  | .blendvps r rm => 0x66 :: 0x0F :: 0x38 :: 0x14 :: modRM r rm
  | .blendvpd r rm => 0x66 :: 0x0F :: 0x38 :: 0x15 :: modRM r rm
  | .aesimc r rm => 0x66 :: 0x0F :: 0x38 :: 0xDB :: modRM r rm
  | .aesenc r rm => 0x66 :: 0x0F :: 0x38 :: 0xDC :: modRM r rm
  | .aesenclast r rm => 0x66 :: 0x0F :: 0x38 :: 0xDD :: modRM r rm
  | .aesdec r rm => 0x66 :: 0x0F :: 0x38 :: 0xDE :: modRM r rm
  | .aesdeclast r rm => 0x66 :: 0x0F :: 0x38 :: 0xDF :: modRM r rm
  | .blendps r rm b => 0x66 :: 0x0F :: 0x3A :: 0x0C :: (modRM r rm ++ [b])
  | .blendpd r rm b => 0x66 :: 0x0F :: 0x3A :: 0x0D :: (modRM r rm ++ [b])
  | .dpps r rm b => 0x66 :: 0x0F :: 0x3A :: 0x40 :: (modRM r rm ++ [b])
  | .dppd r rm b => 0x66 :: 0x0F :: 0x3A :: 0x41 :: (modRM r rm ++ [b])
  | .aeskeygenassist r rm b => 0x66 :: 0x0F :: 0x3A :: 0xDF :: (modRM r rm ++ [b])
  | .andpd r rm => 0x66 :: 0x0F :: 0x54 :: modRM r rm
  | .andnpd r rm => 0x66 :: 0x0F :: 0x55 :: modRM r rm
  | .addpd r rm => 0x66 :: 0x0F :: 0x58 :: modRM r rm
  | .cvtpd2ps r rm => 0x66 :: 0x0F :: 0x5A :: modRM r rm
  | .cvtps2dq r rm => 0x66 :: 0x0F :: 0x5B :: modRM r rm
  | .divpd r rm => 0x66 :: 0x0F :: 0x5E :: modRM r rm
  | .cmppd r rm b => 0x66 :: 0x0F :: 0xC2 :: (modRM r rm ++ [b])
  | .addsubpd r rm => 0x66 :: 0x0F :: 0xD0 :: modRM r rm
  | .cvttpd2dq r rm => 0x66 :: 0x0F :: 0xE6 :: modRM r rm
  | .cvtsi2sd r rm => 0xF2 :: 0x0F :: 0x2A :: modRM r rm
  | .cvttsd2si r rm => 0xF2 :: 0x0F :: 0x2C :: modRM r rm
  | .cvtsd2si r rm => 0xF2 :: 0x0F :: 0x2D :: modRM r rm
  | .addsd r rm => 0xF2 :: 0x0F :: 0x58 :: modRM r rm
  | .cvtsd2ss r rm => 0xF2 :: 0x0F :: 0x5A :: modRM r rm
  | .divsd r rm => 0xF2 :: 0x0F :: 0x5E :: modRM r rm
  | .cmpsdScalar r rm b => 0xF2 :: 0x0F :: 0xC2 :: (modRM r rm ++ [b])
  | .addsubps r rm => 0xF2 :: 0x0F :: 0xD0 :: modRM r rm
  | .cvtpd2dq r rm => 0xF2 :: 0x0F :: 0xE6 :: modRM r rm
  | .cvtsi2ss r rm => 0xF3 :: 0x0F :: 0x2A :: modRM r rm
  | .cvttss2si r rm => 0xF3 :: 0x0F :: 0x2C :: modRM r rm
  | .cvtss2si r rm => 0xF3 :: 0x0F :: 0x2D :: modRM r rm
  | .addss r rm => 0xF3 :: 0x0F :: 0x58 :: modRM r rm
  | .cvtss2sd r rm => 0xF3 :: 0x0F :: 0x5A :: modRM r rm
  | .cvttps2dq r rm => 0xF3 :: 0x0F :: 0x5B :: modRM r rm
  | .divss r rm => 0xF3 :: 0x0F :: 0x5E :: modRM r rm
  | .cmpss r rm b => 0xF3 :: 0x0F :: 0xC2 :: (modRM r rm ++ [b])
  | .cvtdq2pd r rm => 0xF3 :: 0x0F :: 0xE6 :: modRM r rm
  | .overrideFs => [0x64]
  | .overrideGs => [0x65]
  | .operandSize => [0x66]

end Sys2Proof
end

