-- ==== Sys2Proof/Machine/State.lean ====
section
/-! DEFINITION. The state of the machine as plain data (10_state.md), the ways a step can stop, and the state after reset
(10_state.md R60; 70_reset_and_hazards.md R760). -/
namespace Sys2Proof.Machine

/-- The eight general registers (10_state.md R30). -/
structure Regs where
  ax : Word
  cx : Word
  dx : Word
  bx : Word
  sp : Word
  bp : Word
  si : Word
  di : Word
  deriving DecidableEq, Repr

/-- The four segment registers (10_state.md R34). -/
structure Segs where
  es : Word
  cs : Word
  ss : Word
  ds : Word
  deriving DecidableEq, Repr

/-- The nine named flags of FLAGS (10_state.md R40); `ifl` is IF and `ofl` is OF. The unnamed bits hold no state (R41). -/
structure Flags where
  cf : Bool
  pf : Bool
  af : Bool
  zf : Bool
  sf : Bool
  tf : Bool
  ifl : Bool
  df : Bool
  ofl : Bool
  deriving DecidableEq, Repr

/-- Which repeat prefix was read last: F3h or F2h (30_encoding.md R140, R142). -/
inductive RepKind where
  | rep
  | repne
  deriving DecidableEq, Repr

/-- The prefix state of one instruction (10_state.md R57; 30_encoding.md R140). `active` says that a prefix byte of the
instruction at `State.start` has been read. -/
structure Prefixes where
  active : Bool
  seg : Option SReg
  rep : Option RepKind
  lock : Bool
  deriving DecidableEq, Repr

/-- No prefix. -/
def Prefixes.none : Prefixes := ⟨false, .none, .none, false⟩

/-- One sample of the input lines (60_exceptions.md R720 to R723; 45_flag_processor_control.md R441): RESET, an NMI
transition, the maskable request and the type its device supplies on acknowledge, and TEST (`true` is active). -/
structure Lines where
  reset : Bool
  nmi : Bool
  intr : Bool
  intrType : Byte
  test : Bool
  deriving DecidableEq, Repr

/-- No request, TEST active: the default environment (92_eei_decisions.md D24; entry 6). -/
def Lines.quiet : Lines := ⟨false, false, false, 0, true⟩

/-- An access that the platform sees (20_memory.md R91, R95): to an I/O port, or to a device address in memory. -/
inductive Event where
  | ioRead (port : Word) (w : Width) (v : Word)
  | ioWrite (port : Word) (w : Width) (v : Word)
  | memRead (addr : Nat) (v : Byte)
  | memWrite (addr : Nat) (v : Byte)
  deriving DecidableEq, Repr

/-- Memory as the bytes that hold a value, by rising physical address (20_memory.md R84). -/
abbrev Memory := List Host.Cell

/-- The state of the machine. `start` is the offset of the first byte (or first prefix) of the current instruction;
`repeating` is the repeated string instruction whose elements remain (43_string.md R345); `boundary` is `some tf_before` when
the boundary of 60_exceptions.md R720 is due; `stale` lists what addresses held before stores to bytes that
may have been fetched ahead, `none` where they held no value (20_memory.md R104; entry 16);
`inputs`, `answers`, `events` and `draws` are the environment and the free values (entries 5 to 7). -/
structure State where
  regs : Regs
  segs : Segs
  ip : Word
  flags : Flags
  intInhibit : Bool
  halted : Bool
  waiting : Bool
  pfx : Prefixes
  start : Word
  repeating : Option Instr
  boundary : Option Bool
  nmiLatched : Bool
  lines : Lines
  inputs : List Lines
  answers : List Word
  events : List Event
  stale : List (Nat × Option Byte)
  draws : Nat
  cfg : Config
  mem : Memory
  deriving DecidableEq, Repr

/-- Why the machine stops with a fault. Both are faults of the model, not of the processor, and safe: the spec says that the
byte holds no value (10_state.md R60; 70_reset_and_hazards.md R761, R766; 92_eei_decisions.md D10). -/
inductive Fault where
  /-- A data, stack or vector read of a RAM or ROM byte that nothing has written. Raised by `readByte`. Safe. -/
  | noValue (addr : Nat)
  /-- A fetch of an instruction byte that nothing has written. Raised by `fetch`. Safe. -/
  | noCode (addr : Nat)
  deriving DecidableEq, Repr

/-- Why the model gives an instruction no meaning. All are safe: the spec says `refuse` (00_scope.md R15). -/
inductive Refusal where
  /-- An instruction whose meaning is not written yet: raised by an arm of `exec`. Safe. -/
  | notModelled (mnemonic : String)
  /-- Bytes that are no instruction at the level (30_encoding.md R180, R181). Raised by `fetch`. Safe. -/
  | encoding (e : DecodeError)
  /-- A repeat prefix before an instruction that is no string instruction (43_string.md R348 (a)). Raised by
  `checkPrefixes`. Safe. -/
  | repeatOnNonString
  /-- F2h before MOVS, LODS, STOS, INS or OUTS (43_string.md R348 (b)). Raised by `stringInstr`. Safe. -/
  | repneOnNonComparing
  /-- ESC with `HAS_COPROCESSOR = yes` (45_flag_processor_control.md R443). Raised by `execEsc`. Safe. -/
  | coprocessorPresent
  /-- An instruction of level LX86, by its mnemonic (46_x87_escape.md R460; 47_x86_ext_integer_system.md R520;
  48_x86_ext_simd.md R630). Raised by the meanings of that level. Safe. -/
  | lx86 (mnemonic : String)
  deriving DecidableEq, Repr

/-- How an operation ends early. -/
inductive Stop where
  | fault (f : Fault)
  | refused (r : Refusal)
  deriving DecidableEq, Repr

/-- The state right after reset, with nothing placed in memory (10_state.md R60; 70_reset_and_hazards.md R760, R762). The
general registers are 0 by entry 1 (DESIGN CHOICE, unsafe: R60 says unspecified). -/
def State.reset : State where
  regs := ⟨0, 0, 0, 0, 0, 0, 0, 0⟩
  segs := { es := 0, cs := 0xFFFF, ss := 0, ds := 0 }
  ip := 0
  flags := ⟨false, false, false, false, false, false, false, false, false⟩
  intInhibit := false
  halted := false
  waiting := false
  pfx := .none
  start := 0
  repeating := none
  boundary := none
  nmiLatched := false
  lines := .quiet
  inputs := []
  answers := []
  events := []
  stale := []
  draws := 0
  cfg := .default
  mem := []

end Sys2Proof.Machine
end

