-- ==== Sys2Proof/Machine/Ops.lean ====
section
/-! DEFINITION. The named operations over registers, memory, ports and the stack, taking an interrupt and returning from one
(files 10_state.md, 20_memory.md, 40_data_transfer.md R210 and R214, 60_exceptions.md R710). -/
namespace Sys2Proof.Machine

/-! ### Fields -/

/-- Write the field `regs`. -/
def State.setRegs (s : State) (v : Regs) : State := { s with regs := v }

/-- Write the field `segs`. -/
def State.setSegs (s : State) (v : Segs) : State := { s with segs := v }

/-- Write the field `ip`. -/
def State.setIp (s : State) (v : Word) : State := { s with ip := v }

/-- Write the field `flags`. -/
def State.setFlags (s : State) (v : Flags) : State := { s with flags := v }

/-- Write the field `intInhibit`. -/
def State.setIntInhibit (s : State) (v : Bool) : State := { s with intInhibit := v }

/-- Write the field `halted`. -/
def State.setHalted (s : State) (v : Bool) : State := { s with halted := v }

/-- Write the field `waiting`. -/
def State.setWaiting (s : State) (v : Bool) : State := { s with waiting := v }

/-- Write the field `pfx`. -/
def State.setPfx (s : State) (v : Prefixes) : State := { s with pfx := v }

/-- Write the field `start`. -/
def State.setStart (s : State) (v : Word) : State := { s with start := v }

/-- Write the field `repeating`. -/
def State.setRepeating (s : State) (v : Option Instr) : State := { s with repeating := v }

/-- Write the field `boundary`. -/
def State.setBoundary (s : State) (v : Option Bool) : State := { s with boundary := v }

/-- Write the field `nmiLatched`. -/
def State.setNmiLatched (s : State) (v : Bool) : State := { s with nmiLatched := v }

/-- Write the field `lines`. -/
def State.setLines (s : State) (v : Lines) : State := { s with lines := v }

/-- Write the field `inputs`. -/
def State.setInputs (s : State) (v : List Lines) : State := { s with inputs := v }

/-- Write the field `answers`. -/
def State.setAnswers (s : State) (v : List Word) : State := { s with answers := v }

/-- Write the field `events`. -/
def State.setEvents (s : State) (v : List Event) : State := { s with events := v }

/-- Write the field `stale`. -/
def State.setStale (s : State) (v : List (Nat × Option Byte)) : State := { s with stale := v }

/-- Write the field `draws`. -/
def State.setDraws (s : State) (v : Nat) : State := { s with draws := v }

/-- Write the field `cfg`. -/
def State.setCfg (s : State) (v : Config) : State := { s with cfg := v }

/-- Write the field `mem`. -/
def State.setMem (s : State) (v : Memory) : State := { s with mem := v }

/-- Register `n` (10_state.md R30). -/
def Regs.get (r : Regs) : RegNum → Word
  | .r0 => r.ax | .r1 => r.cx | .r2 => r.dx | .r3 => r.bx | .r4 => r.sp | .r5 => r.bp | .r6 => r.si | .r7 => r.di

/-- Write register `n` (10_state.md R30). -/
def Regs.set (r : Regs) (n : RegNum) (v : Word) : Regs :=
  match n with
  | .r0 => { r with ax := v }
  | .r1 => { r with cx := v }
  | .r2 => { r with dx := v }
  | .r3 => { r with bx := v }
  | .r4 => { r with sp := v }
  | .r5 => { r with bp := v }
  | .r6 => { r with si := v }
  | .r7 => { r with di := v }

/-- The word register that holds byte register `n`, and whether it is its high half (10_state.md R31). -/
def byteHome : RegNum → RegNum × Bool
  | .r0 => (.r0, false) | .r1 => (.r1, false) | .r2 => (.r2, false) | .r3 => (.r3, false)
  | .r4 => (.r0, true) | .r5 => (.r1, true) | .r6 => (.r2, true) | .r7 => (.r3, true)

/-- `r16[n]` (00_scope.md R12). -/
def State.reg16 (s : State) (n : RegNum) : Word := s.regs.get n

/-- `r16[n] <- v` (10_state.md R32). -/
def State.setReg16 (s : State) (n : RegNum) (v : Word) : State := s.setRegs (s.regs.set n v)

/-- `r8[n]` (10_state.md R31). -/
def State.reg8 (s : State) (n : RegNum) : Byte :=
  let (r, high) := byteHome n
  if high then highByte (s.reg16 r) else lowByte (s.reg16 r)

/-- `r8[n] <- v`: the other half keeps its value (10_state.md R32). -/
def State.setReg8 (s : State) (n : RegNum) (v : Byte) : State :=
  let (r, high) := byteHome n
  if high then s.setReg16 r (wordOf (lowByte (s.reg16 r)) v) else s.setReg16 r (wordOf v (highByte (s.reg16 r)))

/-- `reg(w, n)` (00_scope.md R12). -/
def State.reg (s : State) (w : Width) (n : RegNum) : BitVec w.bits :=
  match w with
  | .byte => s.reg8 n
  | .word => s.reg16 n

/-- `reg(w, n) <- v` (00_scope.md R12). -/
def State.setReg (s : State) (w : Width) (n : RegNum) (v : BitVec w.bits) : State :=
  match w with
  | .byte => s.setReg8 n v
  | .word => s.setReg16 n v

/-- The content of a segment register (10_state.md R34). -/
def Segs.get (g : Segs) : SReg → Word
  | .es => g.es | .cs => g.cs | .ss => g.ss | .ds => g.ds

/-- Write a segment register (10_state.md R34, R35). -/
def Segs.set (g : Segs) (n : SReg) (v : Word) : Segs :=
  match n with
  | .es => { g with es := v }
  | .cs => { g with cs := v }
  | .ss => { g with ss := v }
  | .ds => { g with ds := v }

/-- `sreg[n]` (00_scope.md R12). -/
def State.sreg (s : State) (n : SReg) : Word := s.segs.get n

/-- `sreg[n] <- v` (00_scope.md R12). -/
def State.setSreg (s : State) (n : SReg) (v : Word) : State := s.setSegs (s.segs.set n v)

/-! ### Memory -/

/-- What an address that no cell lists reads as: no value (10_state.md R60; 92_eei_decisions.md D10; entry 2, safe). The ONE
place that says so: every memory operation goes through it. -/
def Memory.unlisted : Option Byte := none

/-- The byte at a physical address, if it holds a value. -/
def Memory.lookup : Memory → Nat → Option Byte
  | [], _ => unlisted
  | (a, v) :: m, x => if a = x then some v else lookup m x

/-- Put a cell in its place by address. -/
def Memory.insert : Memory → Nat → Byte → Memory
  | [], x, w => [(x, w)]
  | (a, v) :: m, x, w =>
    if x < a then (x, w) :: (a, v) :: m
    else if x = a then (x, w) :: m
    else (a, v) :: insert m x w

/-- Take the cell of an address away. -/
def Memory.erase (m : Memory) (x : Nat) : Memory := m.filter (fun c => c.1 ≠ x)

/-- Write one byte, keeping the canonical form. -/
def Memory.write (m : Memory) (x : Nat) (v : Byte) : Memory :=
  if some v = unlisted then m.erase x else m.insert x v

/-- The canonical form: rising addresses below 2^20, no cell equal to what an unlisted address reads as. -/
def Memory.wf : Memory → Bool
  | [] => true
  | [(a, v)] => decide (a < 2 ^ 20) && (some v != unlisted)
  | (a, v) :: (b, w) :: m => decide (a < b) && decide (a < 2 ^ 20) && (some v != unlisted) && wf ((b, w) :: m)

/-- `phys(seg, off)` (20_memory.md R84). -/
def phys (seg off : Word) : Nat := (seg.toNat * 16 + off.toNat) % 2 ^ 20

/-- The address of byte `i` of an access at `seg:off` (20_memory.md R86): `SEG_WRAP` decides at offset FFFFh. -/
def byteAddr (wrap : SegWrap) (seg off : Word) (i : Nat) : Nat :=
  match wrap with
  | .wrap16 => phys seg (off + BitVec.ofNat 16 i)
  | .linear => (phys seg off + i) % 2 ^ 20

/-- What `MEMMAP` says of an address: the first range that holds it, else `ram` (00_scope.md R8; entry 27). -/
def kindAt : List Region → Nat → MemKind
  | [], _ => .ram
  | r :: rs, x => if r.base ≤ x ∧ x < r.base + r.size then r.kind else kindAt rs x

/-! ### Operations that can stop -/

/-- An operation: from a state to a value and the next state, or a stop. -/
abbrev Op (α : Type) := StateT State (Except Stop) α

/-- Stop with a fault. -/
def Op.fault {α : Type} (f : Fault) : Op α := fun _ => .error (.fault f)

/-- Stop with a refusal. -/
def Op.refuse {α : Type} (r : Refusal) : Op α := fun _ => .error (.refused r)

/-- Update the state. -/
def Op.update (f : State → State) : Op Unit := fun s => .ok ((), f s)

/-- Run an operation as a whole meaning. -/
def runOp (m : Op Unit) (s : State) : Host.Outcome State Fault Refusal :=
  match m s with
  | .ok (_, t) => .next t
  | .error (.fault f) => .fault f
  | .error (.refused r) => .refused r

/-- The free value that the next draw gives (00_scope.md R11). -/
def State.drawn (s : State) : Word := Config.freeValue s.draws

/-- The state after a draw. -/
def State.drew (s : State) : State := s.setDraws (s.draws + 1)

/-- `draw_16()` (00_scope.md R11). -/
def draw : Op Word := fun s => .ok (s.drawn, s.drew)

/-- The platform's answer to a port read or a device read: the next of `State.answers`, else a free value (20_memory.md R91,
R95; entry 7). -/
def answer : Op Word := fun s =>
  match s.answers with
  | a :: rest => .ok (a, s.setAnswers rest)
  | [] => draw s

/-- Put an access on the trace (20_memory.md R95). -/
def State.record (s : State) (e : Event) : State := s.setEvents (e :: s.events)

/-! ### Memory accesses -/

/-- `MemRead` of one byte (20_memory.md R86, R91): RAM and ROM answer what they hold, an absent address a free value, a device
what the platform answers. -/
def readByte (x : Nat) : Op Byte := fun s =>
  match kindAt s.cfg.memMap x with
  | .ram | .rom =>
    match Memory.lookup s.mem x with
    | some v => .ok (v, s)
    | none => .error (.fault (.noValue x))
  | .absent => (do return lowByte (← draw)) s
  | .device => (do
      let v ← answer
      Op.update (·.record (.memRead x (lowByte v)))
      return lowByte v) s

/-- Whether an address lies among the bytes that may have been fetched ahead of IP (20_memory.md R104). -/
def State.mayBePrefetched (s : State) (x : Nat) : Bool :=
  (List.range s.cfg.prefetchDepth.val).any fun j => phys s.segs.cs (s.ip + BitVec.ofNat 16 j) == x

/-- Remember what a store replaces, if it may have been fetched ahead (20_memory.md R104): a byte, or no value (the latter a
DESIGN CHOICE, entry 16). -/
def State.noteStale (s : State) (x : Nat) : State :=
  if s.mayBePrefetched x then s.setStale ((x, Memory.lookup s.mem x) :: s.stale) else s

/-- `MemWrite` of one byte (20_memory.md R87): RAM takes it, ROM and absent addresses drop it, a device is handed it. -/
def State.storeByte (s : State) (x : Nat) (v : Byte) : State :=
  match kindAt s.cfg.memMap x with
  | .ram => (s.noteStale x).setMem (Memory.write s.mem x v)
  | .rom | .absent => s
  | .device => s.record (.memWrite x v)

/-- `MemRead(seg, off, n)` for a byte or a word, the bytes in rising order (20_memory.md R86). -/
def load (w : Width) (seg off : Word) : Op (BitVec w.bits) :=
  match w with
  | .byte => do readByte (byteAddr (← get).cfg.segWrap seg off 0)
  | .word => do
    let lo ← readByte (byteAddr (← get).cfg.segWrap seg off 0)
    let hi ← readByte (byteAddr (← get).cfg.segWrap seg off 1)
    return wordOf lo hi

/-- `MemWrite(seg, off, n, v)` for a byte or a word, the bytes in rising order (20_memory.md R87). -/
def State.store (s : State) (w : Width) (seg off : Word) (v : BitVec w.bits) : State :=
  match w with
  | .byte => s.storeByte (byteAddr s.cfg.segWrap seg off 0) v
  | .word => (s.storeByte (byteAddr s.cfg.segWrap seg off 0) (lowByte v)).storeByte
      (byteAddr s.cfg.segWrap seg off 1) (highByte v)

/-! ### I/O ports -/

/-- A port value of a width, as the word that an event records. -/
def portWord (w : Width) (v : BitVec w.bits) : Word :=
  match w with
  | .byte => zext16 v
  | .word => v

/-- A port value of a width, from the platform's answer. -/
def portValue (w : Width) (v : Word) : BitVec w.bits :=
  match w with
  | .byte => lowByte v
  | .word => v

/-- `IoRead(port, n)` (20_memory.md R95): one access, answered by the platform and put on the trace (entry 19). -/
def ioRead (w : Width) (port : Word) : Op (BitVec w.bits) := do
  let a ← answer
  let v := portValue w a
  Op.update (·.record (.ioRead port w (portWord w v)))
  return v

/-- `IoWrite(port, n, v)` (20_memory.md R95): one event of the trace. -/
def State.ioWrite (s : State) (w : Width) (port : Word) (v : BitVec w.bits) : State :=
  s.record (.ioWrite port w (portWord w v))

/-! ### FLAGS as a word -/

/-- The unnamed bits of FLAGS (10_state.md R41). -/
def unnamedFlags : Word := 0xF02A#16

/-- The FLAGS word as PUSHF and interrupt entry read it: the named bits of R40, the unnamed bits from `FLAGS_FIXED`
(R41; only these, whatever its mask: DEDUCED, entry 31). -/
def Flags.toWord (cfg : Config) (f : Flags) : Word :=
  (cfg.flagsValue &&& cfg.flagsMask &&& unnamedFlags) |||
  (BitVec.ofBool false ++ BitVec.ofBool false ++ BitVec.ofBool false ++ BitVec.ofBool false ++
   BitVec.ofBool f.ofl ++ BitVec.ofBool f.df ++ BitVec.ofBool f.ifl ++ BitVec.ofBool f.tf ++
   BitVec.ofBool f.sf ++ BitVec.ofBool f.zf ++ BitVec.ofBool false ++ BitVec.ofBool f.af ++
   BitVec.ofBool false ++ BitVec.ofBool f.pf ++ BitVec.ofBool false ++ BitVec.ofBool f.cf)

/-- The named flags of a FLAGS word: bits written to unnamed positions are discarded (10_state.md R40, R41). -/
def Flags.ofWord (v : Word) : Flags where
  cf := v.getLsbD 0
  pf := v.getLsbD 2
  af := v.getLsbD 4
  zf := v.getLsbD 6
  sf := v.getLsbD 7
  tf := v.getLsbD 8
  ifl := v.getLsbD 9
  df := v.getLsbD 10
  ofl := v.getLsbD 11

/-- FLAGS as a word (10_state.md R41). -/
def State.flagsWord (s : State) : Word := s.flags.toWord s.cfg

/-! ### The stack -/

/-- `push16` (40_data_transfer.md R210): SP <- SP - 2, then a word write at SS:SP. -/
def State.push16 (s : State) (v : Word) : State :=
  let s := s.setReg16 .sp (s.regs.sp - 2)
  s.store .word s.segs.ss s.regs.sp v

/-- `pop16` (40_data_transfer.md R214): a word read at SS:SP, then SP <- SP + 2. -/
def pop16 : Op Word := do
  let s ← get
  let v ← load .word s.segs.ss s.regs.sp
  Op.update fun s => s.setReg16 .sp (s.regs.sp + 2)
  return v

/-! ### Control transfers and interrupts -/

/-- A taken near transfer: IP changes and bytes fetched ahead are discarded (20_memory.md R104). -/
def State.jump (s : State) (off : Word) : State := (s.setIp off).setStale []

/-- A far transfer: `CS:IP <- seg:off` (00_scope.md R12). -/
def State.jumpFar (s : State) (seg off : Word) : State := (s.setSreg .cs seg).jump off

/-- TAKING AN EXCEPTION: the interrupt sequence of type `n` with return address `retIp` (60_exceptions.md R710), the same for
every cause. The vector at 0000:4n is read first; then FLAGS, CS and `retIp` are pushed, with IF and TF cleared after FLAGS. -/
def interrupt (n : Byte) (retIp : Word) : Op Unit := do
  let newIp ← load .word 0 (zext16 n * 4)
  let newCs ← load .word 0 (zext16 n * 4 + 2)
  Op.update fun s =>
    let s := s.push16 s.flagsWord
    let s := s.setFlags { s.flags with ifl := false, tf := false }
    let s := (s.push16 s.segs.cs).push16 retIp
    ((s.jumpFar newCs newIp).setHalted false).setWaiting false

/-- RETURN FROM AN EXCEPTION (44_control_transfer.md R413): pop IP, CS and FLAGS, in that order. -/
def interruptReturn : Op Unit := do
  let ip ← pop16
  let cs ← pop16
  let fl ← pop16
  Op.update fun s => (s.jumpFar cs ip).setFlags (Flags.ofWord fl)

end Sys2Proof.Machine
end

