-- ==== Sys2Proof/Machine/Flags.lean ====
section
/-! DEFINITION. The status-flag functions of 10_state.md R43 and the undefined flags of R44. -/
namespace Sys2Proof.Machine

variable {n : Nat}

/-- PF: the number of 1 bits in the low 8 bits of a result is even (10_state.md R42, R43). -/
def evenParity (v : BitVec n) : Bool :=
  !((List.range 8).foldl (fun p i => p ^^ v.getLsbD i) false)

/-- `szp_N` (10_state.md R43). -/
def Flags.szp (f : Flags) (res : BitVec n) : Flags :=
  { f with sf := res.msb, zf := res == 0, pf := evenParity res }

/-- The result of `add_N(a, b, cin)` (10_state.md R43). -/
def addResult (a b : BitVec n) (cin : Bool) : BitVec n := BitVec.ofNat n (a.toNat + b.toNat + cin.toNat)

/-- The flags of `add_N(a, b, cin)` (10_state.md R43). -/
def Flags.add (f : Flags) (a b : BitVec n) (cin : Bool) : Flags :=
  let res := addResult a b cin
  { f.szp res with
    cf := decide (2 ^ n ≤ a.toNat + b.toNat + cin.toNat)
    af := decide (16 ≤ a.toNat % 16 + b.toNat % 16 + cin.toNat)
    ofl := (a.msb == b.msb) && (res.msb != a.msb) }

/-- The result of `sub_N(a, b, bin)`: modulo 2^N (10_state.md R43). -/
def subResult (a b : BitVec n) (bin : Bool) : BitVec n :=
  BitVec.ofInt n ((a.toNat : Int) - b.toNat - bin.toNat)

/-- The flags of `sub_N(a, b, bin)` (10_state.md R43). -/
def Flags.sub (f : Flags) (a b : BitVec n) (bin : Bool) : Flags :=
  let res := subResult a b bin
  { f.szp res with
    cf := decide (a.toNat < b.toNat + bin.toNat)
    af := decide (a.toNat % 16 < b.toNat % 16 + bin.toNat)
    ofl := (a.msb != b.msb) && (res.msb != a.msb) }

/-- `logic_N` (10_state.md R43): AF is the draw `u` at AF's place in FLAGS (entry 5). -/
def Flags.logic (f : Flags) (res : BitVec n) (u : Word) : Flags :=
  { f.szp res with cf := false, ofl := false, af := (ofWord u).af }

/-- All six status flags from a draw: after DIV and IDIV (41_arithmetic.md R272, R273). -/
def Flags.statusDrawn (f : Flags) (u : Word) : Flags :=
  { ofWord u with tf := f.tf, ifl := f.ifl, df := f.df }

/-- CF = OF = `c`, the other four status flags from a draw: after MUL and IMUL (41_arithmetic.md R270, R271). -/
def Flags.product (f : Flags) (c : Bool) (u : Word) : Flags :=
  { f.statusDrawn u with cf := c, ofl := c }

/-- AF = CF = `c`, the other four status flags from a draw: after AAA and AAS (41_arithmetic.md R260, R262). -/
def Flags.asciiAdjust (f : Flags) (c : Bool) (u : Word) : Flags :=
  { f.statusDrawn u with af := c, cf := c }

/-- SF, ZF, PF of a result, AF and CF as given, OF from a draw: after DAA and DAS (41_arithmetic.md R261, R263). -/
def Flags.decimalAdjust (f : Flags) (res : Byte) (af cf : Bool) (u : Word) : Flags :=
  { f.szp res with af := af, cf := cf, ofl := (ofWord u).ofl }

/-- SF, ZF, PF of a result, OF, AF and CF from a draw: after AAM and AAD (41_arithmetic.md R274, R275). -/
def Flags.baseAdjust (f : Flags) (res : Byte) (u : Word) : Flags :=
  (f.statusDrawn u).szp res

/-- The sixteen conditions of 44_control_transfer.md R380, named by their jumps. -/
inductive Cond where
  | o | no | b | nb | z | nz | be | nbe | s | ns | p | np | l | nl | le | nle
  deriving DecidableEq, Repr

/-- When a condition holds (44_control_transfer.md R380). -/
def Cond.holds (f : Flags) : Cond → Bool
  | .o => f.ofl
  | .no => !f.ofl
  | .b => f.cf
  | .nb => !f.cf
  | .z => f.zf
  | .nz => !f.zf
  | .be => f.cf || f.zf
  | .nbe => !f.cf && !f.zf
  | .s => f.sf
  | .ns => !f.sf
  | .p => f.pf
  | .np => !f.pf
  | .l => f.sf != f.ofl
  | .nl => f.sf == f.ofl
  | .le => f.zf || (f.sf != f.ofl)
  | .nle => !f.zf && (f.sf == f.ofl)

/-! ### Shifts and rotates -/

/-- The seven shifts and rotates of 42_logic_shift_rotate.md R311 to R317. -/
inductive ShiftKind where
  | rol | ror | rcl | rcr | shl | shr | sar
  deriving DecidableEq, Repr

/-- Whether it is a shift, which writes SF, ZF, PF and AF, and not a rotate (R310, R44). -/
def ShiftKind.isShift : ShiftKind → Bool
  | .rol | .ror | .rcl | .rcr => false
  | .shl | .shr | .sar => true

/-- Put a bit at the top of a value shifted right by one. -/
def shiftInTop (c : Bool) (x : BitVec n) : BitVec n := (x >>> 1) ||| ((BitVec.ofNat n c.toNat) <<< (n - 1))

/-- Put a bit at the bottom of a value shifted left by one. -/
def shiftInBottom (x : BitVec n) (c : Bool) : BitVec n := (x <<< 1) ||| BitVec.ofNat n c.toNat

/-- The one-bit step: the operand and CF, before and after (42_logic_shift_rotate.md R311 to R317). -/
def ShiftKind.step (k : ShiftKind) (x : BitVec n) (cf : Bool) : BitVec n × Bool :=
  match k with
  | .rol => (shiftInBottom x x.msb, x.msb)
  | .ror => (shiftInTop (x.getLsbD 0) x, x.getLsbD 0)
  | .rcl => (shiftInBottom x cf, x.msb)
  | .rcr => (shiftInTop cf x, x.getLsbD 0)
  | .shl => (x <<< 1, x.msb)
  | .shr => (x >>> 1, x.getLsbD 0)
  | .sar => (shiftInTop x.msb x, x.getLsbD 0)

/-- `count` repetitions of the one-bit step (R310). -/
def ShiftKind.steps (k : ShiftKind) : Nat → BitVec n × Bool → BitVec n × Bool
  | 0, p => p
  | c + 1, p => steps k c (k.step p.1 p.2)

/-- OF after a count of 1, from the operand before and the operand and CF after (R311 to R317). -/
def ShiftKind.overflow (k : ShiftKind) (before after : BitVec n) (cf : Bool) : Bool :=
  match k with
  | .rol | .rcl | .shl => after.msb ^^ cf
  | .ror | .rcr => after.msb ^^ after.getLsbD (n - 2)
  | .shr => before.msb
  | .sar => false

/-- The flags after a shift or rotate by `count` (R310): nothing for 0; OF from the rule for 1 and from the draw `u` for more;
the shifts also write SF, ZF, PF and draw AF. -/
def Flags.shifted (f : Flags) (k : ShiftKind) (count : Nat) (before after : BitVec n) (cf : Bool) (u : Word) : Flags :=
  if count = 0 then f
  else
    let f := { f with cf := cf, ofl := if count = 1 then k.overflow before after cf else (ofWord u).ofl }
    if k.isShift then { f.szp after with af := (ofWord u).af } else f

end Sys2Proof.Machine
end

