-- ==== Sys2Proof/Machine/Operands.lean ====
section
/-! DEFINITION. The operand forms: effective addresses (30_encoding.md R133, R134), r/m operands (R132, 20_memory.md R106), and
the forms that instructions share (41_arithmetic.md R258). -/
namespace Sys2Proof.Machine

/-- The sum of the base registers of an r/m field (30_encoding.md R133). -/
def State.baseSum (s : State) : Base → Word
  | .bxsi => s.regs.bx + s.regs.si
  | .bxdi => s.regs.bx + s.regs.di
  | .bpsi => s.regs.bp + s.regs.si
  | .bpdi => s.regs.bp + s.regs.di
  | .si => s.regs.si
  | .di => s.regs.di
  | .bp => s.regs.bp
  | .bx => s.regs.bx

/-- Whether the address uses BP as a base, so that its default segment is SS (30_encoding.md R134). -/
def usesBp : Base → Bool
  | .bpsi | .bpdi | .bp => true
  | .bxsi | .bxdi | .si | .di | .bx => false

/-- `ea_off` (30_encoding.md R133). -/
def State.eaOff (s : State) : MemEA → Word
  | .direct off => off
  | .base b => s.baseSum b
  | .disp8 b d => s.baseSum b + sext16 d
  | .disp16 b d => s.baseSum b + d

/-- The default segment of a memory operand (30_encoding.md R134). -/
def defaultSeg : MemEA → SReg
  | .direct _ => .ds
  | .base b => if usesBp b then .ss else .ds
  | .disp8 b _ => if usesBp b then .ss else .ds
  | .disp16 b _ => if usesBp b then .ss else .ds

/-- The content of the override segment if there is one, else of the default (30_encoding.md R134, R141). -/
def State.segOr (s : State) (d : SReg) : Word := s.sreg (s.pfx.seg.getD d)

/-- `ea_seg` (30_encoding.md R134). -/
def State.eaSeg (s : State) (m : MemEA) : Word := s.segOr (defaultSeg m)

/-- Where an r/m operand is: computed once, before anything is written (20_memory.md R106). -/
inductive Loc where
  | reg (r : RegNum)
  | mem (seg off : Word)
  deriving DecidableEq, Repr

/-- The place of an r/m operand (30_encoding.md R132 to R134). -/
def State.locate (s : State) : RM → Loc
  | .reg r => .reg r
  | .mem m => .mem (s.eaSeg m) (s.eaOff m)

/-- Read a place: `RM(w)` as a source. -/
def readLoc (w : Width) : Loc → Op (BitVec w.bits)
  | .reg r => fun s => .ok (s.reg w r, s)
  | .mem seg off => load w seg off

/-- Write a place: `RM(w) <- v`. -/
def State.writeLoc (s : State) (w : Width) (l : Loc) (v : BitVec w.bits) : State :=
  match l with
  | .reg r => s.setReg w r v
  | .mem seg off => s.store w seg off v

/-- `RM(w)` read at the place that the state gives it. -/
def readRM (w : Width) (rm : RM) : Op (BitVec w.bits) := do readLoc w ((← get).locate rm)

/-- The two words of a far pointer or of BOUND's pair: at `ea_off` and at `trunc_16(ea_off + 2)` (40_data_transfer.md R229;
DEDUCED under SEG_WRAP = linear, entry 24). -/
def readPair (m : MemEA) : Op (Word × Word) := do
  let s ← get
  let a ← load .word (s.eaSeg m) (s.eaOff m)
  let b ← load .word (s.eaSeg m) (s.eaOff m + 2)
  return (a, b)

/-! ### Two-operand forms -/

/-- A two-operand operation: from the values of destination and source to the result, with its flags. -/
abbrev BinOp := (w : Width) → BitVec w.bits → BitVec w.bits → Op (BitVec w.bits)

/-- `dst <- op(dst, src)` with an r/m destination and a register source (R258 (a), d = 0). -/
def binRmReg (op : BinOp) (w : Width) (rm : RM) (r : RegNum) : Op Unit := do
  let l := (← get).locate rm
  let a ← readLoc w l
  let v ← op w a ((← get).reg w r)
  Op.update (·.writeLoc w l v)

/-- `dst <- op(dst, src)` with a register destination and an r/m source (R258 (a), d = 1). -/
def binRegRm (op : BinOp) (w : Width) (r : RegNum) (rm : RM) : Op Unit := do
  let b ← readRM w rm
  let v ← op w ((← get).reg w r) b
  Op.update (·.setReg w r v)

/-- `dst <- op(dst, imm)` with an r/m destination (R258 (b)). -/
def binRmVal (op : BinOp) (w : Width) (rm : RM) (b : BitVec w.bits) : Op Unit := do
  let l := (← get).locate rm
  let a ← readLoc w l
  let v ← op w a b
  Op.update (·.writeLoc w l v)

/-- R258 (b) with an immediate of the operand's size. -/
def binRmImm (op : BinOp) (rm : RM) : Imm → Op Unit
  | .ib b => binRmVal op .byte rm b
  | .iw v => binRmVal op .word rm v

/-- R258 (c): `acc <- op(acc, imm)`. -/
def binAcc (op : BinOp) : Imm → Op Unit
  | .ib b => binRmVal op .byte (.reg .al) b
  | .iw v => binRmVal op .word (.reg .ax) v

/-- `op(dst, src)` with the result discarded: CMP and TEST, an r/m and a register. -/
def testRmReg (op : BinOp) (w : Width) (rm : RM) (r : RegNum) : Op Unit := do
  let a ← readRM w rm
  let _ ← op w a ((← get).reg w r)

/-- `op(dst, src)` with the result discarded: CMP, a register and an r/m. -/
def testRegRm (op : BinOp) (w : Width) (r : RegNum) (rm : RM) : Op Unit := do
  let b ← readRM w rm
  let _ ← op w ((← get).reg w r) b

/-- `op(dst, imm)` with the result discarded. -/
def testRmVal (op : BinOp) (w : Width) (rm : RM) (b : BitVec w.bits) : Op Unit := do
  let a ← readRM w rm
  let _ ← op w a b

/-- `op(dst, imm)` with the result discarded, an immediate of the operand's size. -/
def testRmImm (op : BinOp) (rm : RM) : Imm → Op Unit
  | .ib b => testRmVal op .byte rm b
  | .iw v => testRmVal op .word rm v

/-- `op(acc, imm)` with the result discarded. -/
def testAcc (op : BinOp) : Imm → Op Unit
  | .ib b => testRmVal op .byte (.reg .al) b
  | .iw v => testRmVal op .word (.reg .ax) v

/-- `dst <- op(dst)`. -/
def unary (op : (w : Width) → BitVec w.bits → Op (BitVec w.bits)) (w : Width) (rm : RM) : Op Unit := do
  let l := (← get).locate rm
  let a ← readLoc w l
  let v ← op w a
  Op.update (·.writeLoc w l v)

/-- The accumulator's number, AL or AX: the same in both widths. -/
def acc : RegNum := .r0

end Sys2Proof.Machine
end

