-- ==== Sys2Proof/Machine/Arithmetic.lean ====
section
/-! DEFINITION. The arithmetic instructions (41_arithmetic.md). -/
namespace Sys2Proof.Machine

/-- `add_N(a, b, 0)` (R250). -/
def addOp (w : Width) (a b : BitVec w.bits) : Op (BitVec w.bits) := do
  Op.update fun s => s.setFlags (s.flags.add a b false)
  return addResult a b false

/-- `add_N(a, b, CF)`, CF read before it is written (R251). -/
def adcOp (w : Width) (a b : BitVec w.bits) : Op (BitVec w.bits) := do
  let c := (← get).flags.cf
  Op.update fun s => s.setFlags (s.flags.add a b c)
  return addResult a b c

/-- `sub_N(a, b, 0)` (R253, R257). -/
def subOp (w : Width) (a b : BitVec w.bits) : Op (BitVec w.bits) := do
  Op.update fun s => s.setFlags (s.flags.sub a b false)
  return subResult a b false

/-- `sub_N(a, b, CF)` (R254). -/
def sbbOp (w : Width) (a b : BitVec w.bits) : Op (BitVec w.bits) := do
  let c := (← get).flags.cf
  Op.update fun s => s.setFlags (s.flags.sub a b c)
  return subResult a b c

/-- `add_N(a, 1, 0)` with CF unchanged (R252). -/
def incOp (w : Width) (a : BitVec w.bits) : Op (BitVec w.bits) := do
  Op.update fun s => s.setFlags { s.flags.add a 1 false with cf := s.flags.cf }
  return addResult a 1 false

/-- `sub_N(a, 1, 0)` with CF unchanged (R255). -/
def decOp (w : Width) (a : BitVec w.bits) : Op (BitVec w.bits) := do
  Op.update fun s => s.setFlags { s.flags.sub a 1 false with cf := s.flags.cf }
  return subResult a 1 false

/-- `sub_N(0, a, 0)` (R256). -/
def negOp (w : Width) (a : BitVec w.bits) : Op (BitVec w.bits) := subOp w 0 a

/-- ADD r/m, r (41_arithmetic.md R250). -/
def execAddRmReg (w : Width) (rm : RM) (r : RegNum) (s : State) : Host.Outcome State Fault Refusal :=
  runOp (binRmReg addOp w rm r) s

/-- ADD r, r/m (41_arithmetic.md R250). -/
def execAddRegRm (w : Width) (r : RegNum) (rm : RM) (s : State) : Host.Outcome State Fault Refusal :=
  runOp (binRegRm addOp w r rm) s

/-- ADD AL/AX, imm (41_arithmetic.md R250). -/
def execAddAcc (imm : Imm) (s : State) : Host.Outcome State Fault Refusal :=
  runOp (binAcc addOp imm) s

/-- ADD r/m, imm (41_arithmetic.md R250). -/
def execAddRmImm (rm : RM) (imm : Imm) (s : State) : Host.Outcome State Fault Refusal :=
  runOp (binRmImm addOp rm imm) s

/-- ADD r/m16, ib (sign-extended) (41_arithmetic.md R250). -/
def execAddRmImm8 (rm : RM) (b : Byte) (s : State) : Host.Outcome State Fault Refusal :=
  runOp (binRmVal addOp .word rm (sext16 b)) s

/-- ADC r/m, r (41_arithmetic.md R251). -/
def execAdcRmReg (w : Width) (rm : RM) (r : RegNum) (s : State) : Host.Outcome State Fault Refusal :=
  runOp (binRmReg adcOp w rm r) s

/-- ADC r, r/m (41_arithmetic.md R251). -/
def execAdcRegRm (w : Width) (r : RegNum) (rm : RM) (s : State) : Host.Outcome State Fault Refusal :=
  runOp (binRegRm adcOp w r rm) s

/-- ADC AL/AX, imm (41_arithmetic.md R251). -/
def execAdcAcc (imm : Imm) (s : State) : Host.Outcome State Fault Refusal :=
  runOp (binAcc adcOp imm) s

/-- ADC r/m, imm (41_arithmetic.md R251). -/
def execAdcRmImm (rm : RM) (imm : Imm) (s : State) : Host.Outcome State Fault Refusal :=
  runOp (binRmImm adcOp rm imm) s

/-- ADC r/m16, ib (sign-extended) (41_arithmetic.md R251). -/
def execAdcRmImm8 (rm : RM) (b : Byte) (s : State) : Host.Outcome State Fault Refusal :=
  runOp (binRmVal adcOp .word rm (sext16 b)) s

/-- SUB r/m, r (41_arithmetic.md R253). -/
def execSubRmReg (w : Width) (rm : RM) (r : RegNum) (s : State) : Host.Outcome State Fault Refusal :=
  runOp (binRmReg subOp w rm r) s

/-- SUB r, r/m (41_arithmetic.md R253). -/
def execSubRegRm (w : Width) (r : RegNum) (rm : RM) (s : State) : Host.Outcome State Fault Refusal :=
  runOp (binRegRm subOp w r rm) s

/-- SUB AL/AX, imm (41_arithmetic.md R253). -/
def execSubAcc (imm : Imm) (s : State) : Host.Outcome State Fault Refusal :=
  runOp (binAcc subOp imm) s

/-- SUB r/m, imm (41_arithmetic.md R253). -/
def execSubRmImm (rm : RM) (imm : Imm) (s : State) : Host.Outcome State Fault Refusal :=
  runOp (binRmImm subOp rm imm) s

/-- SUB r/m16, ib (sign-extended) (41_arithmetic.md R253). -/
def execSubRmImm8 (rm : RM) (b : Byte) (s : State) : Host.Outcome State Fault Refusal :=
  runOp (binRmVal subOp .word rm (sext16 b)) s

/-- SBB r/m, r (41_arithmetic.md R254). -/
def execSbbRmReg (w : Width) (rm : RM) (r : RegNum) (s : State) : Host.Outcome State Fault Refusal :=
  runOp (binRmReg sbbOp w rm r) s

/-- SBB r, r/m (41_arithmetic.md R254). -/
def execSbbRegRm (w : Width) (r : RegNum) (rm : RM) (s : State) : Host.Outcome State Fault Refusal :=
  runOp (binRegRm sbbOp w r rm) s

/-- SBB AL/AX, imm (41_arithmetic.md R254). -/
def execSbbAcc (imm : Imm) (s : State) : Host.Outcome State Fault Refusal :=
  runOp (binAcc sbbOp imm) s

/-- SBB r/m, imm (41_arithmetic.md R254). -/
def execSbbRmImm (rm : RM) (imm : Imm) (s : State) : Host.Outcome State Fault Refusal :=
  runOp (binRmImm sbbOp rm imm) s

/-- SBB r/m16, ib (sign-extended) (41_arithmetic.md R254). -/
def execSbbRmImm8 (rm : RM) (b : Byte) (s : State) : Host.Outcome State Fault Refusal :=
  runOp (binRmVal sbbOp .word rm (sext16 b)) s

/-- CMP r/m, r (41_arithmetic.md R257). -/
def execCmpRmReg (w : Width) (rm : RM) (r : RegNum) (s : State) : Host.Outcome State Fault Refusal :=
  runOp (testRmReg subOp w rm r) s

/-- CMP r, r/m (41_arithmetic.md R257). -/
def execCmpRegRm (w : Width) (r : RegNum) (rm : RM) (s : State) : Host.Outcome State Fault Refusal :=
  runOp (testRegRm subOp w r rm) s

/-- CMP AL/AX, imm (41_arithmetic.md R257). -/
def execCmpAcc (imm : Imm) (s : State) : Host.Outcome State Fault Refusal :=
  runOp (testAcc subOp imm) s

/-- CMP r/m, imm (41_arithmetic.md R257). -/
def execCmpRmImm (rm : RM) (imm : Imm) (s : State) : Host.Outcome State Fault Refusal :=
  runOp (testRmImm subOp rm imm) s

/-- CMP r/m16, ib (sign-extended) (41_arithmetic.md R257). -/
def execCmpRmImm8 (rm : RM) (b : Byte) (s : State) : Host.Outcome State Fault Refusal :=
  runOp (testRmVal subOp .word rm (sext16 b)) s

/-- INC r/m (41_arithmetic.md R252). -/
def execIncRm (w : Width) (rm : RM) (s : State) : Host.Outcome State Fault Refusal :=
  runOp (unary incOp w rm) s

/-- INC r16 (41_arithmetic.md R252). -/
def execIncReg (r : RegNum) (s : State) : Host.Outcome State Fault Refusal :=
  runOp (unary incOp .word (.reg r)) s

/-- DEC r/m (41_arithmetic.md R255). -/
def execDecRm (w : Width) (rm : RM) (s : State) : Host.Outcome State Fault Refusal :=
  runOp (unary decOp w rm) s

/-- DEC r16 (41_arithmetic.md R255). -/
def execDecReg (r : RegNum) (s : State) : Host.Outcome State Fault Refusal :=
  runOp (unary decOp .word (.reg r)) s

/-- NEG r/m (41_arithmetic.md R256). -/
def execNeg (w : Width) (rm : RM) (s : State) : Host.Outcome State Fault Refusal :=
  runOp (unary negOp w rm) s

/-- Whether the first step of an adjustment applies: the low nibble of AL is above 9, or AF (R260 to R263). -/
def adjustsLow (al : Byte) (f : Flags) : Bool := decide (9 < al.toNat % 16) || f.af

/-- AAA and AAS: `d` is the change of AL, `c` that of AH (R260, R262). -/
def asciiAdjust (d c : Byte) : Op Unit := do
  let s ← get
  let al := s.reg8 .al
  let adj := adjustsLow al s.flags
  let u ← draw
  Op.update fun s =>
    let s := if adj then (s.setReg8 .al ((al + d) &&& 0x0F)).setReg8 .ah (s.reg8 .ah + c) else s.setReg8 .al (al &&& 0x0F)
    s.setFlags (s.flags.asciiAdjust adj u)

/-- The result of DAA or DAS in AL and CF: `d1` and `d2` are the changes of the two steps, each step as R261 and R263 say. -/
def decimalResult (d1 d2 : Byte) (al : Byte) (f : Flags) : Byte × Bool :=
  let a := if adjustsLow al f then al + d1 else al
  if decide (9 < a.toNat / 16) || f.cf then (a + d2, true) else (a, false)

/-- Inputs of DAA whose AL and CF are unspecified (R261): the first step wraps past FFh. -/
def daaOpen (al : Byte) (f : Flags) : Bool := adjustsLow al f && decide (0xF9 < al.toNat)

/-- Inputs of DAS whose AL and CF are unspecified (R263): the first step borrows past 00h, or AL is 9Ah to 9Fh with CF = 0. -/
def dasOpen (al : Byte) (f : Flags) : Bool :=
  (adjustsLow al f && decide (al.toNat < 6)) || (decide (0x9A ≤ al.toNat ∧ al.toNat ≤ 0x9F) && !f.cf)

/-- DAA and DAS: where AL and CF are unspecified they are bits of the draw `v`; OF is that of the draw `u` (entries 5, 17). -/
def decimalAdjust (d1 d2 : Byte) (isOpen : Byte → Flags → Bool) : Op Unit := do
  let s ← get
  let al := s.reg8 .al
  let u ← draw
  let v ← draw
  let (res, c) := if isOpen al s.flags then (highByte v, (Flags.ofWord v).cf) else decimalResult d1 d2 al s.flags
  Op.update fun t => (t.setReg8 .al res).setFlags (t.flags.decimalAdjust res (adjustsLow al s.flags) c u)

/-- AAA (41_arithmetic.md R260). -/
def execAaa (s : State) : Host.Outcome State Fault Refusal :=
  runOp (asciiAdjust 6 1) s

/-- AAS (41_arithmetic.md R262). -/
def execAas (s : State) : Host.Outcome State Fault Refusal :=
  runOp (asciiAdjust (-6) (-1)) s

/-- DAA (41_arithmetic.md R261). -/
def execDaa (s : State) : Host.Outcome State Fault Refusal :=
  runOp (decimalAdjust 6 0x60 daaOpen) s

/-- DAS (41_arithmetic.md R263). -/
def execDas (s : State) : Host.Outcome State Fault Refusal :=
  runOp (decimalAdjust (-6) (-0x60) dasOpen) s

/-- The double-width product in AX or DX:AX, `c` saying that it does not fit its low half (R270, R271). -/
def setProduct (w : Width) (p : BitVec 32) (c : Bool) : Op Unit := do
  let u ← draw
  Op.update fun s =>
    let s := match w with
      | .byte => s.setReg16 .ax (p.setWidth 16)
      | .word => (s.setReg16 .ax (p.setWidth 16)).setReg16 .dx (p.extractLsb' 16 16)
    s.setFlags (s.flags.product c u)

/-- MUL: CF = OF = the upper half is not 0 (R270). -/
def mulOp (w : Width) (rm : RM) : Op Unit := do
  let b ← readRM w rm
  let a := (← get).reg w acc
  let p := a.toNat * b.toNat
  setProduct w (BitVec.ofNat 32 p) (decide (2 ^ w.bits ≤ p))

/-- IMUL: CF = OF = the product is not the sign extension of its low half (R271, D17). -/
def imulOp (w : Width) (rm : RM) : Op Unit := do
  let b ← readRM w rm
  let a := (← get).reg w acc
  let p := a.toInt * b.toInt
  setProduct w (BitVec.ofInt 32 p) (decide ((BitVec.ofInt w.bits p).toInt ≠ p))

/-- The dividend: AX, or DX:AX (R272, R273). -/
def State.dividend (s : State) : (w : Width) → BitVec (2 * w.bits)
  | .byte => s.reg16 .ax
  | .word => s.reg16 .dx ++ s.reg16 .ax

/-- Quotient to AL or AX, remainder to AH or DX (R272, R273). -/
def State.setQuotient (s : State) (w : Width) (q r : BitVec w.bits) : State :=
  match w with
  | .byte => (s.setReg8 .al q).setReg8 .ah r
  | .word => (s.setReg16 .ax q).setReg16 .dx r

/-- Quotient and remainder of DIV, or `none` where it raises type 0 (R272). -/
def divResult (w : Width) (n : BitVec (2 * w.bits)) (d : BitVec w.bits) : Option (BitVec w.bits × BitVec w.bits) :=
  if d.toNat = 0 then none
  else if 2 ^ w.bits ≤ n.toNat / d.toNat then none
  else some (BitVec.ofNat w.bits (n.toNat / d.toNat), BitVec.ofNat w.bits (n.toNat % d.toNat))

/-- Quotient and remainder of IDIV, rounded toward zero, or `none` where it raises type 0: the quotients admitted are -127 to
127, or -32767 to 32767 (R273, 90_conflicts.md C12). -/
def idivResult (w : Width) (n : BitVec (2 * w.bits)) (d : BitVec w.bits) : Option (BitVec w.bits × BitVec w.bits) :=
  if d.toInt = 0 then none
  else
    let q := n.toInt.tdiv d.toInt
    if (2 : Int) ^ (w.bits - 1) - 1 < q ∨ q < -((2 : Int) ^ (w.bits - 1) - 1) then none
    else some (BitVec.ofInt w.bits q, BitVec.ofInt w.bits (n.toInt.tmod d.toInt))

/-- The IP that a divide error saves (60_exceptions.md R701, `DIV_FAULT_IP`). -/
def State.divFaultIp (s : State) : Word :=
  match s.cfg.divFaultIp with
  | .next => s.ip
  | .faulting => s.start

/-- DIV and IDIV: the six status flags are drawn, then the results are written or type 0 is raised (R272, R273; R701). -/
def divideOp (res : (w : Width) → BitVec (2 * w.bits) → BitVec w.bits → Option (BitVec w.bits × BitVec w.bits))
    (w : Width) (rm : RM) : Op Unit := do
  let d ← readRM w rm
  let n := (← get).dividend w
  let u ← draw
  Op.update fun s => s.setFlags (s.flags.statusDrawn u)
  match res w n d with
  | some (q, r) => Op.update (·.setQuotient w q r)
  | none => interrupt 0 (← get).divFaultIp

/-- MUL r/m (41_arithmetic.md R270). -/
def execMul (w : Width) (rm : RM) (s : State) : Host.Outcome State Fault Refusal :=
  runOp (mulOp w rm) s

/-- IMUL r/m (41_arithmetic.md R271). -/
def execImul (w : Width) (rm : RM) (s : State) : Host.Outcome State Fault Refusal :=
  runOp (imulOp w rm) s

/-- DIV r/m (41_arithmetic.md R272). -/
def execDiv (w : Width) (rm : RM) (s : State) : Host.Outcome State Fault Refusal :=
  runOp (divideOp divResult w rm) s

/-- IDIV r/m (41_arithmetic.md R273). -/
def execIdiv (w : Width) (rm : RM) (s : State) : Host.Outcome State Fault Refusal :=
  runOp (divideOp idivResult w rm) s

/-- AAM (41_arithmetic.md R274). -/
def execAam (s : State) : Host.Outcome State Fault Refusal :=
  runOp (do
    let al := (← get).reg8 .al
    let u ← draw
    Op.update fun s =>
      let q := al / 10
      let r := al % 10
      ((s.setReg8 .ah q).setReg8 .al r).setFlags (s.flags.baseAdjust r u)) s

/-- AAD (41_arithmetic.md R275). -/
def execAad (s : State) : Host.Outcome State Fault Refusal :=
  runOp (do
    let s ← get
    let r := s.reg8 .ah * 10 + s.reg8 .al
    let u ← draw
    Op.update fun s => ((s.setReg8 .al r).setReg8 .ah 0).setFlags (s.flags.baseAdjust r u)) s

/-- CBW (41_arithmetic.md R276). -/
def execCbw (s : State) : Host.Outcome State Fault Refusal :=
  .next (s.setReg16 .ax (sext16 (s.reg8 .al)))

/-- CWD (41_arithmetic.md R281). -/
def execCwd (s : State) : Host.Outcome State Fault Refusal :=
  .next (s.setReg16 .dx (if (s.reg16 .ax).msb then 0xFFFF else 0))

end Sys2Proof.Machine
end

