-- ==== Sys2Proof/Machine/Control.lean ====
section
/-! DEFINITION. The control transfers (44_control_transfer.md). -/
namespace Sys2Proof.Machine

/-- The target of a short displacement (R360). -/
def State.shortTarget (s : State) (b : Byte) : Word := s.ip + sext16 b

/-- A jump to a short displacement if the condition holds, else nothing (R360, R380). -/
def State.jumpShortIf (s : State) (c : Bool) (b : Byte) : State := if c then s.jump (s.shortTarget b) else s

/-- LOOP, LOOPE and LOOPNE: `CX <- CX - 1`, then the jump if CX is not 0 and the condition holds (R400 to R402). -/
def State.loopIf (s : State) (c : Bool) (b : Byte) : State :=
  let s := s.setReg16 .cx (s.regs.cx - 1)
  s.jumpShortIf (s.regs.cx != 0 && c) b

/-- Near return, then `n` more bytes are released (R365, R366). -/
def returnNear (n : Word) : Op Unit := do
  let ip ← pop16
  Op.update fun s => (s.jump ip).setReg16 .sp (s.regs.sp + n)

/-- Far return, then `n` more bytes are released (R367, R368). -/
def returnFar (n : Word) : Op Unit := do
  let ip ← pop16
  let cs ← pop16
  Op.update fun s => (s.jumpFar cs ip).setReg16 .sp (s.regs.sp + n)

/-- Push the return address of a far call and go (R363, R364). -/
def State.callFar (s : State) (seg off : Word) : State := ((s.push16 s.segs.cs).push16 s.ip).jumpFar seg off

/-- CALL cw (near) (44_control_transfer.md R361). -/
def execCallNear (v : Word) (s : State) : Host.Outcome State Fault Refusal :=
  .next ((s.push16 s.ip).jump (s.ip + v))

/-- CALL r/m16 (near indirect) (44_control_transfer.md R362). -/
def execCallRm (rm : RM) (s : State) : Host.Outcome State Fault Refusal :=
  runOp (do
    let t ← readRM .word rm
    Op.update fun s => (s.push16 s.ip).jump t) s

/-- CALL far seg:off (44_control_transfer.md R363). -/
def execCallFar (off : Word) (seg : Word) (s : State) : Host.Outcome State Fault Refusal :=
  .next (s.callFar seg off)

/-- CALL FAR m16:16 (far indirect) (44_control_transfer.md R364). -/
def execCallFarMem (m : MemEA) (s : State) : Host.Outcome State Fault Refusal :=
  runOp (do
    let (off, seg) ← readPair m
    Op.update (·.callFar seg off)) s

/-- RET (near) (44_control_transfer.md R365). -/
def execRet (s : State) : Host.Outcome State Fault Refusal :=
  runOp (returnNear 0) s

/-- RET iw (near) (44_control_transfer.md R366). -/
def execRetImm (v : Word) (s : State) : Host.Outcome State Fault Refusal :=
  runOp (returnNear v) s

/-- RETF (44_control_transfer.md R367). -/
def execRetf (s : State) : Host.Outcome State Fault Refusal :=
  runOp (returnFar 0) s

/-- RETF iw (44_control_transfer.md R368). -/
def execRetfImm (v : Word) (s : State) : Host.Outcome State Fault Refusal :=
  runOp (returnFar v) s

/-- JMP cb (short) (44_control_transfer.md R370). -/
def execJmpShort (b : Byte) (s : State) : Host.Outcome State Fault Refusal :=
  .next (s.jump (s.shortTarget b))

/-- JMP cw (near) (44_control_transfer.md R371). -/
def execJmpNear (v : Word) (s : State) : Host.Outcome State Fault Refusal :=
  .next (s.jump (s.ip + v))

/-- JMP far seg:off (44_control_transfer.md R372). -/
def execJmpFar (off : Word) (seg : Word) (s : State) : Host.Outcome State Fault Refusal :=
  .next (s.jumpFar seg off)

/-- JMP r/m16 (near indirect) (44_control_transfer.md R373). -/
def execJmpRm (rm : RM) (s : State) : Host.Outcome State Fault Refusal :=
  runOp (do
    let t ← readRM .word rm
    Op.update (·.jump t)) s

/-- JMP FAR m16:16 (far indirect) (44_control_transfer.md R374). -/
def execJmpFarMem (m : MemEA) (s : State) : Host.Outcome State Fault Refusal :=
  runOp (do
    let (off, seg) ← readPair m
    Op.update (·.jumpFar seg off)) s

/-- JO cb (44_control_transfer.md R381). -/
def execJo (b : Byte) (s : State) : Host.Outcome State Fault Refusal :=
  .next (s.jumpShortIf (Cond.holds s.flags .o) b)

/-- JNO cb (44_control_transfer.md R382). -/
def execJno (b : Byte) (s : State) : Host.Outcome State Fault Refusal :=
  .next (s.jumpShortIf (Cond.holds s.flags .no) b)

/-- JB_JNAE_JC cb (44_control_transfer.md R383). -/
def execJb (b : Byte) (s : State) : Host.Outcome State Fault Refusal :=
  .next (s.jumpShortIf (Cond.holds s.flags .b) b)

/-- JNB_JAE_JNC cb (44_control_transfer.md R384). -/
def execJnb (b : Byte) (s : State) : Host.Outcome State Fault Refusal :=
  .next (s.jumpShortIf (Cond.holds s.flags .nb) b)

/-- JZ_JE cb (44_control_transfer.md R385). -/
def execJz (b : Byte) (s : State) : Host.Outcome State Fault Refusal :=
  .next (s.jumpShortIf (Cond.holds s.flags .z) b)

/-- JNZ_JNE cb (44_control_transfer.md R386). -/
def execJnz (b : Byte) (s : State) : Host.Outcome State Fault Refusal :=
  .next (s.jumpShortIf (Cond.holds s.flags .nz) b)

/-- JBE_JNA cb (44_control_transfer.md R387). -/
def execJbe (b : Byte) (s : State) : Host.Outcome State Fault Refusal :=
  .next (s.jumpShortIf (Cond.holds s.flags .be) b)

/-- JNBE_JA cb (44_control_transfer.md R388). -/
def execJnbe (b : Byte) (s : State) : Host.Outcome State Fault Refusal :=
  .next (s.jumpShortIf (Cond.holds s.flags .nbe) b)

/-- JS cb (44_control_transfer.md R389). -/
def execJs (b : Byte) (s : State) : Host.Outcome State Fault Refusal :=
  .next (s.jumpShortIf (Cond.holds s.flags .s) b)

/-- JNS cb (44_control_transfer.md R390). -/
def execJns (b : Byte) (s : State) : Host.Outcome State Fault Refusal :=
  .next (s.jumpShortIf (Cond.holds s.flags .ns) b)

/-- JP_JPE cb (44_control_transfer.md R391). -/
def execJp (b : Byte) (s : State) : Host.Outcome State Fault Refusal :=
  .next (s.jumpShortIf (Cond.holds s.flags .p) b)

/-- JNP_JPO cb (44_control_transfer.md R392). -/
def execJnp (b : Byte) (s : State) : Host.Outcome State Fault Refusal :=
  .next (s.jumpShortIf (Cond.holds s.flags .np) b)

/-- JL_JNGE cb (44_control_transfer.md R393). -/
def execJl (b : Byte) (s : State) : Host.Outcome State Fault Refusal :=
  .next (s.jumpShortIf (Cond.holds s.flags .l) b)

/-- JNL_JGE cb (44_control_transfer.md R394). -/
def execJnl (b : Byte) (s : State) : Host.Outcome State Fault Refusal :=
  .next (s.jumpShortIf (Cond.holds s.flags .nl) b)

/-- JLE_JNG cb (44_control_transfer.md R395). -/
def execJle (b : Byte) (s : State) : Host.Outcome State Fault Refusal :=
  .next (s.jumpShortIf (Cond.holds s.flags .le) b)

/-- JNLE_JG cb (44_control_transfer.md R396). -/
def execJnle (b : Byte) (s : State) : Host.Outcome State Fault Refusal :=
  .next (s.jumpShortIf (Cond.holds s.flags .nle) b)

/-- LOOP cb (44_control_transfer.md R400). -/
def execLoop (b : Byte) (s : State) : Host.Outcome State Fault Refusal :=
  .next (s.loopIf true b)

/-- LOOPE_LOOPZ cb (44_control_transfer.md R401). -/
def execLoope (b : Byte) (s : State) : Host.Outcome State Fault Refusal :=
  .next (s.loopIf s.flags.zf b)

/-- LOOPNE_LOOPNZ cb (44_control_transfer.md R402). -/
def execLoopne (b : Byte) (s : State) : Host.Outcome State Fault Refusal :=
  .next (s.loopIf (!s.flags.zf) b)

/-- JCXZ cb (44_control_transfer.md R403). -/
def execJcxz (b : Byte) (s : State) : Host.Outcome State Fault Refusal :=
  .next (s.jumpShortIf (s.regs.cx == 0) b)

/-- INT ib (44_control_transfer.md R410). -/
def execIntN (b : Byte) (s : State) : Host.Outcome State Fault Refusal :=
  runOp (interrupt b s.ip) s

/-- INT_3 (44_control_transfer.md R411). -/
def execInt3 (s : State) : Host.Outcome State Fault Refusal :=
  runOp (interrupt 3 s.ip) s

/-- INTO (44_control_transfer.md R412). -/
def execInto (s : State) : Host.Outcome State Fault Refusal :=
  runOp (if s.flags.ofl then interrupt 4 s.ip else pure ()) s

/-- IRET (44_control_transfer.md R413). -/
def execIret (s : State) : Host.Outcome State Fault Refusal :=
  runOp (interruptReturn) s

/-- The copies of ENTER: `n` times `BP <- BP - 2; push16(MemRead(SS, BP, 2))` (R415). -/
def enterCopies : Nat → Op Unit
  | 0 => pure ()
  | n + 1 => do
    Op.update fun s => s.setReg16 .bp (s.regs.bp - 2)
    let s ← get
    let v ← load .word s.segs.ss s.regs.bp
    Op.update (·.push16 v)
    enterCopies n

/-- ENTER with frame size `size` and nesting level `level` (R415). -/
def enterOp (size : Word) (level : Nat) : Op Unit := do
  Op.update fun s => s.push16 s.regs.bp
  let frame := (← get).regs.sp
  if level ≠ 0 then
    enterCopies (level - 1)
    Op.update (·.push16 frame)
  Op.update fun s => (s.setReg16 .bp frame).setReg16 .sp (s.regs.sp - size)

/-- ENTER iw, ib (44_control_transfer.md R415). -/
def execEnter (v : Word) (b : Byte) (s : State) : Host.Outcome State Fault Refusal :=
  runOp (enterOp v (b.toNat % 32)) s

/-- LEAVE (44_control_transfer.md R416). -/
def execLeave (s : State) : Host.Outcome State Fault Refusal :=
  runOp (do
    Op.update fun s => s.setReg16 .sp s.regs.bp
    let v ← pop16
    Op.update (·.setReg16 .bp v)) s

/-- BOUND r16, m16&16 (44_control_transfer.md R417). -/
def execBound (r : RegNum) (m : MemEA) (s : State) : Host.Outcome State Fault Refusal :=
  runOp (do
    let (lo, hi) ← readPair m
    let v := s.reg16 r
    if v.toInt < lo.toInt ∨ hi.toInt < v.toInt then interrupt 5 s.start else pure ()) s

end Sys2Proof.Machine
end

