-- ==== Sys2Proof/Machine/DataTransfer.lean ====
section
/-! DEFINITION. The data-transfer instructions (40_data_transfer.md). -/
namespace Sys2Proof.Machine

/-- The interrupt shadow of a segment-register load (60_exceptions.md R721, `INT_SHADOW_SEG`). -/
def State.shadow (s : State) : State := if s.cfg.shadowSeg then s.setIntInhibit true else s

/-- PUSH SP stores the value that `PUSH_SP_VALUE` says, any other register its own (R211, R213). -/
def State.pushReg (s : State) (r : RegNum) : State :=
  match r, s.cfg.pushSp with
  | .r4, .new => s.push16 (s.regs.sp - 2)
  | _, _ => s.push16 (s.reg16 r)

/-- POP of a segment register, with its shadow (R217). -/
def popSreg (n : SReg) : Op Unit := do
  let v ← pop16
  Op.update fun s => (s.setSreg n v).shadow

/-- LDS and LES: both words are read before either register is written (R229, R235). -/
def loadPointer (n : SReg) (r : RegNum) (m : MemEA) : Op Unit := do
  let (off, seg) ← readPair m
  Op.update fun s => (s.setReg16 r off).setSreg n seg

/-- IN: AL or AX from a port (R224, R225). -/
def inPort (w : Width) (port : Word) : Op Unit := do
  let v ← ioRead w port
  Op.update (·.setReg w acc v)

/-- MOV r/m, r (40_data_transfer.md R200). -/
def execMovRmReg (w : Width) (rm : RM) (r : RegNum) (s : State) : Host.Outcome State Fault Refusal :=
  .next (s.writeLoc w (s.locate rm) (s.reg w r))

/-- MOV r, r/m (40_data_transfer.md R201). -/
def execMovRegRm (w : Width) (r : RegNum) (rm : RM) (s : State) : Host.Outcome State Fault Refusal :=
  runOp (do
    let v ← readRM w rm
    Op.update (·.setReg w r v)) s

/-- MOV r/m, imm (40_data_transfer.md R202). -/
def execMovRmImm (rm : RM) (imm : Imm) (s : State) : Host.Outcome State Fault Refusal :=
  match imm with
  | .ib b => .next (s.writeLoc .byte (s.locate rm) b)
  | .iw v => .next (s.writeLoc .word (s.locate rm) v)

/-- MOV r, imm (40_data_transfer.md R203). -/
def execMovRegImm (r : RegNum) (imm : Imm) (s : State) : Host.Outcome State Fault Refusal :=
  match imm with
  | .ib b => .next (s.setReg8 r b)
  | .iw v => .next (s.setReg16 r v)

/-- MOV AL/AX, [addr] (40_data_transfer.md R204). -/
def execMovAccMem (w : Width) (off : Word) (s : State) : Host.Outcome State Fault Refusal :=
  runOp (do
    let v ← load w (s.segOr .ds) off
    Op.update (·.setReg w acc v)) s

/-- MOV [addr], AL/AX (40_data_transfer.md R205). -/
def execMovMemAcc (w : Width) (off : Word) (s : State) : Host.Outcome State Fault Refusal :=
  .next (s.store w (s.segOr .ds) off (s.reg w acc))

/-- MOV sreg, r/m16 (40_data_transfer.md R206); CS as destination is refused by the decoder (D30). -/
def execMovSregRm (sr : SReg) (rm : RM) (s : State) : Host.Outcome State Fault Refusal :=
  runOp (do
    let v ← readRM .word rm
    Op.update fun s => (s.setSreg sr v).shadow) s

/-- MOV r/m16, sreg (40_data_transfer.md R207). -/
def execMovRmSreg (rm : RM) (sr : SReg) (s : State) : Host.Outcome State Fault Refusal :=
  .next (s.writeLoc .word (s.locate rm) (s.sreg sr))

/-- PUSH r16 (40_data_transfer.md R211). -/
def execPushReg (r : RegNum) (s : State) : Host.Outcome State Fault Refusal :=
  .next (s.pushReg r)

/-- PUSH ES (40_data_transfer.md R212). -/
def execPushEs (s : State) : Host.Outcome State Fault Refusal :=
  .next (s.push16 s.segs.es)

/-- PUSH CS (40_data_transfer.md R212). -/
def execPushCs (s : State) : Host.Outcome State Fault Refusal :=
  .next (s.push16 s.segs.cs)

/-- PUSH SS (40_data_transfer.md R212). -/
def execPushSs (s : State) : Host.Outcome State Fault Refusal :=
  .next (s.push16 s.segs.ss)

/-- PUSH DS (40_data_transfer.md R212). -/
def execPushDs (s : State) : Host.Outcome State Fault Refusal :=
  .next (s.push16 s.segs.ds)

/-- PUSH r/m16 (40_data_transfer.md R213). -/
def execPushRm (rm : RM) (s : State) : Host.Outcome State Fault Refusal :=
  match rm with
  | .reg r => .next (s.pushReg r)
  | .mem m => runOp (do
      let v ← readRM .word (.mem m)
      Op.update (·.push16 v)) s

/-- POP r16 (40_data_transfer.md R215). -/
def execPopReg (r : RegNum) (s : State) : Host.Outcome State Fault Refusal :=
  runOp (do
    let v ← pop16
    Op.update (·.setReg16 r v)) s

/-- POP r/m16 (40_data_transfer.md R216). -/
def execPopRm (rm : RM) (s : State) : Host.Outcome State Fault Refusal :=
  runOp (do
    let l := (← get).locate rm
    let v ← pop16
    Op.update (·.writeLoc .word l v)) s

/-- POP ES (40_data_transfer.md R217). -/
def execPopEs (s : State) : Host.Outcome State Fault Refusal :=
  runOp (popSreg .es) s

/-- POP SS (40_data_transfer.md R217). -/
def execPopSs (s : State) : Host.Outcome State Fault Refusal :=
  runOp (popSreg .ss) s

/-- POP DS (40_data_transfer.md R217). -/
def execPopDs (s : State) : Host.Outcome State Fault Refusal :=
  runOp (popSreg .ds) s

/-- The eight words of PUSHA in the order they are pushed: SP as it was before (R218). -/
def State.pushaWords (s : State) : List Word :=
  [s.regs.ax, s.regs.cx, s.regs.dx, s.regs.bx, s.regs.sp, s.regs.bp, s.regs.si, s.regs.di]

/-- The registers of POPA in the order they are popped, `none` for the word that is discarded (R219). -/
def popaOrder : List (Option RegNum) :=
  [some .di, some .si, some .bp, none, some .bx, some .dx, some .cx, some .ax]

/-- Pop a word into a register, or discard it. -/
def popInto : Option RegNum → Op Unit
  | some r => do
    let v ← pop16
    Op.update (·.setReg16 r v)
  | none => do
    let _ ← pop16

/-- The pops of POPA, one after another. -/
def popAll : List (Option RegNum) → Op Unit
  | [] => pure ()
  | r :: rs => do
    popInto r
    popAll rs

/-- PUSHA (40_data_transfer.md R218). -/
def execPusha (s : State) : Host.Outcome State Fault Refusal :=
  .next (s.pushaWords.foldl State.push16 s)

/-- POPA (40_data_transfer.md R219). -/
def execPopa (s : State) : Host.Outcome State Fault Refusal :=
  runOp (popAll popaOrder) s

/-- PUSH iw (40_data_transfer.md R220). -/
def execPushImm (v : Word) (s : State) : Host.Outcome State Fault Refusal :=
  .next (s.push16 v)

/-- PUSH ib (sign-extended) (40_data_transfer.md R220). -/
def execPushImm8 (b : Byte) (s : State) : Host.Outcome State Fault Refusal :=
  .next (s.push16 (sext16 b))

/-- XCHG r/m, r (40_data_transfer.md R221). -/
def execXchgRmReg (w : Width) (rm : RM) (r : RegNum) (s : State) : Host.Outcome State Fault Refusal :=
  runOp (do
    let l := (← get).locate rm
    let a ← readLoc w l
    Op.update fun s =>
      let b := s.reg w r
      (s.writeLoc w l b).setReg w r a) s

/-- XCHG AX, r16 (40_data_transfer.md R222). -/
def execXchgAx (r : RegNum) (s : State) : Host.Outcome State Fault Refusal :=
  .next ((s.setReg16 .ax (s.reg16 r)).setReg16 r (s.reg16 .ax))

/-- XLAT (40_data_transfer.md R223). -/
def execXlat (s : State) : Host.Outcome State Fault Refusal :=
  runOp (do
    let v ← load .byte (s.segOr .ds) (s.regs.bx + zext16 (s.reg8 .al))
    Op.update (·.setReg8 .al v)) s

/-- IN AL/AX, ib (40_data_transfer.md R224). -/
def execInImm (w : Width) (b : Byte) (s : State) : Host.Outcome State Fault Refusal :=
  runOp (inPort w (zext16 b)) s

/-- IN AL/AX, DX (40_data_transfer.md R225). -/
def execInDx (w : Width) (s : State) : Host.Outcome State Fault Refusal :=
  runOp (inPort w s.regs.dx) s

/-- OUT ib, AL/AX (40_data_transfer.md R226). -/
def execOutImm (w : Width) (b : Byte) (s : State) : Host.Outcome State Fault Refusal :=
  .next (s.ioWrite w (zext16 b) (s.reg w acc))

/-- OUT DX, AL/AX (40_data_transfer.md R227). -/
def execOutDx (w : Width) (s : State) : Host.Outcome State Fault Refusal :=
  .next (s.ioWrite w s.regs.dx (s.reg w acc))

/-- LEA r16, m (40_data_transfer.md R228). -/
def execLea (r : RegNum) (m : MemEA) (s : State) : Host.Outcome State Fault Refusal :=
  .next (s.setReg16 r (s.eaOff m))

/-- LDS r16, m16:16 (40_data_transfer.md R229). -/
def execLds (r : RegNum) (m : MemEA) (s : State) : Host.Outcome State Fault Refusal :=
  runOp (loadPointer .ds r m) s

/-- LES r16, m16:16 (40_data_transfer.md R235). -/
def execLes (r : RegNum) (m : MemEA) (s : State) : Host.Outcome State Fault Refusal :=
  runOp (loadPointer .es r m) s

/-- PUSHF (40_data_transfer.md R230). -/
def execPushf (s : State) : Host.Outcome State Fault Refusal :=
  .next (s.push16 s.flagsWord)

/-- POPF (40_data_transfer.md R231). -/
def execPopf (s : State) : Host.Outcome State Fault Refusal :=
  runOp (do
    let v ← pop16
    Op.update (·.setFlags (Flags.ofWord v))) s

/-- LAHF (40_data_transfer.md R232). -/
def execLahf (s : State) : Host.Outcome State Fault Refusal :=
  .next (s.setReg8 .ah (lowByte s.flagsWord))

/-- SAHF (40_data_transfer.md R233). -/
def execSahf (s : State) : Host.Outcome State Fault Refusal :=
  let f := Flags.ofWord (zext16 (s.reg8 .ah))
  .next (s.setFlags { s.flags with sf := f.sf, zf := f.zf, af := f.af, pf := f.pf, cf := f.cf })

/-- SETALC (40_data_transfer.md R234). -/
def execSetalc (s : State) : Host.Outcome State Fault Refusal :=
  .next (s.setReg8 .al (if s.flags.cf then 0xFF else 0))

end Sys2Proof.Machine
end

