-- ==== Sys2Proof/Machine/ExtInteger.lean ====
section
/-! DEFINITION. The later integer and system instructions, level LX86: catalogued and refused by name (47_x86_ext_integer_system.md R520). -/
namespace Sys2Proof.Machine

/-- MONITOR: `refuse("LX86: MONITOR")` (47_x86_ext_integer_system.md R521). -/
def execMonitor (_s : State) : Host.Outcome State Fault Refusal :=
  .refused (.lx86 "MONITOR")

/-- MWAIT: `refuse("LX86: MWAIT")` (47_x86_ext_integer_system.md R522). -/
def execMwait (_s : State) : Host.Outcome State Fault Refusal :=
  .refused (.lx86 "MWAIT")

/-- VMMCALL: `refuse("LX86: VMMCALL")` (47_x86_ext_integer_system.md R523). -/
def execVmmcall (_s : State) : Host.Outcome State Fault Refusal :=
  .refused (.lx86 "VMMCALL")

/-- STGI: `refuse("LX86: STGI")` (47_x86_ext_integer_system.md R524). -/
def execStgi (_s : State) : Host.Outcome State Fault Refusal :=
  .refused (.lx86 "STGI")

/-- CLGI: `refuse("LX86: CLGI")` (47_x86_ext_integer_system.md R525). -/
def execClgi (_s : State) : Host.Outcome State Fault Refusal :=
  .refused (.lx86 "CLGI")

/-- SKINIT EAX: `refuse("LX86: SKINIT")` (47_x86_ext_integer_system.md R526). -/
def execSkinit (_s : State) : Host.Outcome State Fault Refusal :=
  .refused (.lx86 "SKINIT")

/-- INVLPGA RAX, ECX: `refuse("LX86: INVLPGA")` (47_x86_ext_integer_system.md R535). -/
def execInvlpga (_s : State) : Host.Outcome State Fault Refusal :=
  .refused (.lx86 "INVLPGA")

/-- SWAPGS: `refuse("LX86: SWAPGS")` (47_x86_ext_integer_system.md R528). -/
def execSwapgs (_s : State) : Host.Outcome State Fault Refusal :=
  .refused (.lx86 "SWAPGS")

/-- RDTSCP: `refuse("LX86: RDTSCP")` (47_x86_ext_integer_system.md R529). -/
def execRdtscp (_s : State) : Host.Outcome State Fault Refusal :=
  .refused (.lx86 "RDTSCP")

/-- SYSCALL: `refuse("LX86: SYSCALL")` (47_x86_ext_integer_system.md R530). -/
def execSyscall (_s : State) : Host.Outcome State Fault Refusal :=
  .refused (.lx86 "SYSCALL")

/-- CLTS: `refuse("LX86: CLTS")` (47_x86_ext_integer_system.md R531). -/
def execClts (_s : State) : Host.Outcome State Fault Refusal :=
  .refused (.lx86 "CLTS")

/-- LOADALL___SYSRET: `refuse("LX86: LOADALL")` by R532, `refuse("LX86: SYSRET")` by R533 of 47_x86_ext_integer_system.md, for
the same bytes; 90_conflicts.md C19 chooses neither, so the refusal has the name of the one row, which names both (DESIGN CHOICE,
entry 34). -/
def execLoadallSysret (_s : State) : Host.Outcome State Fault Refusal :=
  .refused (.lx86 "LOADALL___SYSRET")

/-- WBINVD: `refuse("LX86: WBINVD")` (47_x86_ext_integer_system.md R527). -/
def execWbinvd (_s : State) : Host.Outcome State Fault Refusal :=
  .refused (.lx86 "WBINVD")

/-- UD2: `refuse("LX86: UD2")` (47_x86_ext_integer_system.md R534). -/
def execUd2 (_s : State) : Host.Outcome State Fault Refusal :=
  .refused (.lx86 "UD2")

/-- WRMSR: `refuse("LX86: WRMSR")` (47_x86_ext_integer_system.md R536). -/
def execWrmsr (_s : State) : Host.Outcome State Fault Refusal :=
  .refused (.lx86 "WRMSR")

/-- RDTSC: `refuse("LX86: RDTSC")` (47_x86_ext_integer_system.md R537). -/
def execRdtsc (_s : State) : Host.Outcome State Fault Refusal :=
  .refused (.lx86 "RDTSC")

/-- RDMSR: `refuse("LX86: RDMSR")` (47_x86_ext_integer_system.md R538). -/
def execRdmsr (_s : State) : Host.Outcome State Fault Refusal :=
  .refused (.lx86 "RDMSR")

/-- RDPMC: `refuse("LX86: RDPMC")` (47_x86_ext_integer_system.md R539). -/
def execRdpmc (_s : State) : Host.Outcome State Fault Refusal :=
  .refused (.lx86 "RDPMC")

/-- SYSENTER: `refuse("LX86: SYSENTER")` (47_x86_ext_integer_system.md R540). -/
def execSysenter (_s : State) : Host.Outcome State Fault Refusal :=
  .refused (.lx86 "SYSENTER")

/-- SYSEXIT: `refuse("LX86: SYSEXIT")` (47_x86_ext_integer_system.md R541). -/
def execSysexit (_s : State) : Host.Outcome State Fault Refusal :=
  .refused (.lx86 "SYSEXIT")

/-- CMOVO reg16, reg/mem16: `refuse("LX86: CMOVO")` (47_x86_ext_integer_system.md R542). -/
def execCmovo (_r : RegNum) (_rm : RM) (_s : State) : Host.Outcome State Fault Refusal :=
  .refused (.lx86 "CMOVO")

/-- CMOVNO reg16, reg/mem16: `refuse("LX86: CMOVNO")` (47_x86_ext_integer_system.md R543). -/
def execCmovno (_r : RegNum) (_rm : RM) (_s : State) : Host.Outcome State Fault Refusal :=
  .refused (.lx86 "CMOVNO")

/-- CMOVB reg16, reg/mem16: `refuse("LX86: CMOVB")` (47_x86_ext_integer_system.md R544). -/
def execCmovb (_r : RegNum) (_rm : RM) (_s : State) : Host.Outcome State Fault Refusal :=
  .refused (.lx86 "CMOVB")

/-- CMOVNB reg16,reg/mem16: `refuse("LX86: CMOVNB")` (47_x86_ext_integer_system.md R545). -/
def execCmovnb (_r : RegNum) (_rm : RM) (_s : State) : Host.Outcome State Fault Refusal :=
  .refused (.lx86 "CMOVNB")

/-- CMOVZ reg16, reg/mem16: `refuse("LX86: CMOVZ")` (47_x86_ext_integer_system.md R546). -/
def execCmovz (_r : RegNum) (_rm : RM) (_s : State) : Host.Outcome State Fault Refusal :=
  .refused (.lx86 "CMOVZ")

/-- CMOVNZ reg16, reg/mem16: `refuse("LX86: CMOVNZ")` (47_x86_ext_integer_system.md R547). -/
def execCmovnz (_r : RegNum) (_rm : RM) (_s : State) : Host.Outcome State Fault Refusal :=
  .refused (.lx86 "CMOVNZ")

/-- CMOVBE reg16, reg/mem16: `refuse("LX86: CMOVBE")` (47_x86_ext_integer_system.md R548). -/
def execCmovbe (_r : RegNum) (_rm : RM) (_s : State) : Host.Outcome State Fault Refusal :=
  .refused (.lx86 "CMOVBE")

/-- CMOVNBE reg16, reg/mem16: `refuse("LX86: CMOVNBE")` (47_x86_ext_integer_system.md R549). -/
def execCmovnbe (_r : RegNum) (_rm : RM) (_s : State) : Host.Outcome State Fault Refusal :=
  .refused (.lx86 "CMOVNBE")

/-- CMOVS reg16, reg/mem16: `refuse("LX86: CMOVS")` (47_x86_ext_integer_system.md R550). -/
def execCmovs (_r : RegNum) (_rm : RM) (_s : State) : Host.Outcome State Fault Refusal :=
  .refused (.lx86 "CMOVS")

/-- CMOVNS reg16, reg/mem16: `refuse("LX86: CMOVNS")` (47_x86_ext_integer_system.md R551). -/
def execCmovns (_r : RegNum) (_rm : RM) (_s : State) : Host.Outcome State Fault Refusal :=
  .refused (.lx86 "CMOVNS")

/-- CMOVP reg16, reg/mem16: `refuse("LX86: CMOVP")` (47_x86_ext_integer_system.md R552). -/
def execCmovp (_r : RegNum) (_rm : RM) (_s : State) : Host.Outcome State Fault Refusal :=
  .refused (.lx86 "CMOVP")

/-- CMOVNP reg16, reg/mem16: `refuse("LX86: CMOVNP")` (47_x86_ext_integer_system.md R553). -/
def execCmovnp (_r : RegNum) (_rm : RM) (_s : State) : Host.Outcome State Fault Refusal :=
  .refused (.lx86 "CMOVNP")

/-- CMOVL reg16, reg/mem16: `refuse("LX86: CMOVL")` (47_x86_ext_integer_system.md R554). -/
def execCmovl (_r : RegNum) (_rm : RM) (_s : State) : Host.Outcome State Fault Refusal :=
  .refused (.lx86 "CMOVL")

/-- CMOVNL reg16, reg/mem16: `refuse("LX86: CMOVNL")` (47_x86_ext_integer_system.md R555). -/
def execCmovnl (_r : RegNum) (_rm : RM) (_s : State) : Host.Outcome State Fault Refusal :=
  .refused (.lx86 "CMOVNL")

/-- CMOVLE reg16, reg/mem16: `refuse("LX86: CMOVLE")` (47_x86_ext_integer_system.md R556). -/
def execCmovle (_r : RegNum) (_rm : RM) (_s : State) : Host.Outcome State Fault Refusal :=
  .refused (.lx86 "CMOVLE")

/-- CMOVNLE reg16, reg/mem16: `refuse("LX86: CMOVNLE")` (47_x86_ext_integer_system.md R557). -/
def execCmovnle (_r : RegNum) (_rm : RM) (_s : State) : Host.Outcome State Fault Refusal :=
  .refused (.lx86 "CMOVNLE")

/-- PUSH FS: `refuse("LX86: PUSH")` (47_x86_ext_integer_system.md R558). -/
def execPushFs (_s : State) : Host.Outcome State Fault Refusal :=
  .refused (.lx86 "PUSH")

/-- POP FS: `refuse("LX86: POP")` (47_x86_ext_integer_system.md R559). -/
def execPopFs (_s : State) : Host.Outcome State Fault Refusal :=
  .refused (.lx86 "POP")

/-- CPUID: `refuse("LX86: CPUID")` (47_x86_ext_integer_system.md R563). -/
def execCpuid (_s : State) : Host.Outcome State Fault Refusal :=
  .refused (.lx86 "CPUID")

/-- BT reg/mem16, reg16: `refuse("LX86: BT")` (47_x86_ext_integer_system.md R564). -/
def execBtRmReg (_r : RegNum) (_rm : RM) (_s : State) : Host.Outcome State Fault Refusal :=
  .refused (.lx86 "BT")

/-- PUSH GS: `refuse("LX86: PUSH")` (47_x86_ext_integer_system.md R565). -/
def execPushGs (_s : State) : Host.Outcome State Fault Refusal :=
  .refused (.lx86 "PUSH")

/-- POP GS: `refuse("LX86: POP")` (47_x86_ext_integer_system.md R566). -/
def execPopGs (_s : State) : Host.Outcome State Fault Refusal :=
  .refused (.lx86 "POP")

/-- RSM: `refuse("LX86: RSM")` (47_x86_ext_integer_system.md R567). -/
def execRsm (_s : State) : Host.Outcome State Fault Refusal :=
  .refused (.lx86 "RSM")

/-- BTS reg/mem16, reg16: `refuse("LX86: BTS")` (47_x86_ext_integer_system.md R568). -/
def execBtsRmReg (_r : RegNum) (_rm : RM) (_s : State) : Host.Outcome State Fault Refusal :=
  .refused (.lx86 "BTS")

/-- CLFLUSH mem8: `refuse("LX86: CLFLUSH")` (47_x86_ext_integer_system.md R593). -/
def execClflush (_m : MemEA) (_s : State) : Host.Outcome State Fault Refusal :=
  .refused (.lx86 "CLFLUSH")

/-- LFENCE: `refuse("LX86: LFENCE")` (47_x86_ext_integer_system.md R590). -/
def execLfence (_s : State) : Host.Outcome State Fault Refusal :=
  .refused (.lx86 "LFENCE")

/-- MFENCE: `refuse("LX86: MFENCE")` (47_x86_ext_integer_system.md R591). -/
def execMfence (_s : State) : Host.Outcome State Fault Refusal :=
  .refused (.lx86 "MFENCE")

/-- SFENCE: `refuse("LX86: SFENCE")` (47_x86_ext_integer_system.md R592). -/
def execSfence (_s : State) : Host.Outcome State Fault Refusal :=
  .refused (.lx86 "SFENCE")

/-- CMPXCHG reg/mem8, reg8: `refuse("LX86: CMPXCHG")` (47_x86_ext_integer_system.md R560). -/
def execCmpxchgRm8 (_r : RegNum) (_rm : RM) (_s : State) : Host.Outcome State Fault Refusal :=
  .refused (.lx86 "CMPXCHG")

/-- CMPXCHG reg/mem16, reg16: `refuse("LX86: CMPXCHG")` (47_x86_ext_integer_system.md R561). -/
def execCmpxchgRm16 (_r : RegNum) (_rm : RM) (_s : State) : Host.Outcome State Fault Refusal :=
  .refused (.lx86 "CMPXCHG")

/-- BTR reg/mem16, reg16: `refuse("LX86: BTR")` (47_x86_ext_integer_system.md R569). -/
def execBtrRmReg (_r : RegNum) (_rm : RM) (_s : State) : Host.Outcome State Fault Refusal :=
  .refused (.lx86 "BTR")

/-- BT reg/mem16, imm8: `refuse("LX86: BT")` (47_x86_ext_integer_system.md R570). -/
def execBtRmImm (_rm : RM) (_b : Byte) (_s : State) : Host.Outcome State Fault Refusal :=
  .refused (.lx86 "BT")

/-- BTS reg/mem16, imm8: `refuse("LX86: BTS")` (47_x86_ext_integer_system.md R571). -/
def execBtsRmImm (_rm : RM) (_b : Byte) (_s : State) : Host.Outcome State Fault Refusal :=
  .refused (.lx86 "BTS")

/-- BTR reg/mem16, imm8: `refuse("LX86: BTR")` (47_x86_ext_integer_system.md R572). -/
def execBtrRmImm (_rm : RM) (_b : Byte) (_s : State) : Host.Outcome State Fault Refusal :=
  .refused (.lx86 "BTR")

/-- BTC reg/mem16, imm8: `refuse("LX86: BTC")` (47_x86_ext_integer_system.md R573). -/
def execBtcRmImm (_rm : RM) (_b : Byte) (_s : State) : Host.Outcome State Fault Refusal :=
  .refused (.lx86 "BTC")

/-- BTC reg/mem16, reg16: `refuse("LX86: BTC")` (47_x86_ext_integer_system.md R574). -/
def execBtcRmReg (_r : RegNum) (_rm : RM) (_s : State) : Host.Outcome State Fault Refusal :=
  .refused (.lx86 "BTC")

/-- BSF reg16, reg/mem16: `refuse("LX86: BSF")` (47_x86_ext_integer_system.md R575). -/
def execBsf (_r : RegNum) (_rm : RM) (_s : State) : Host.Outcome State Fault Refusal :=
  .refused (.lx86 "BSF")

/-- BSR reg16, reg/mem16: `refuse("LX86: BSR")` (47_x86_ext_integer_system.md R576). -/
def execBsr (_r : RegNum) (_rm : RM) (_s : State) : Host.Outcome State Fault Refusal :=
  .refused (.lx86 "BSR")

/-- CMPXCHG8B mem64: `refuse("LX86: CMPXCHG8B")` (47_x86_ext_integer_system.md R562). -/
def execCmpxchg8b (_m : MemEA) (_s : State) : Host.Outcome State Fault Refusal :=
  .refused (.lx86 "CMPXCHG8B")

/-- BSWAP reg32: `refuse("LX86: BSWAP")` (47_x86_ext_integer_system.md R577). -/
def execBswap (_r : RegNum) (_s : State) : Host.Outcome State Fault Refusal :=
  .refused (.lx86 "BSWAP")

/-- OIO: `refuse("LX86: OIO")` (47_x86_ext_integer_system.md R578). -/
def execOio (_s : State) : Host.Outcome State Fault Refusal :=
  .refused (.lx86 "OIO")

/-- ARPL reg/mem16, reg16: `refuse("LX86: ARPL")` (47_x86_ext_integer_system.md R600). -/
def execArpl (_r : RegNum) (_rm : RM) (_s : State) : Host.Outcome State Fault Refusal :=
  .refused (.lx86 "ARPL")

/-- SMI___ICEBP: `refuse("LX86: SMI")` by R603, `refuse("LX86: ICEBP")` by R604 of 47_x86_ext_integer_system.md, for the same
byte; 90_conflicts.md C19 chooses neither, so the refusal has the name of the one row, which names both (DESIGN CHOICE, entry
34). -/
def execSmiIcebp (_s : State) : Host.Outcome State Fault Refusal :=
  .refused (.lx86 "SMI___ICEBP")

/-- PUSHAD: `refuse("LX86: PUSHAD")` (47_x86_ext_integer_system.md R580). -/
def execPushad (_s : State) : Host.Outcome State Fault Refusal :=
  .refused (.lx86 "PUSHAD")

/-- POPAD: `refuse("LX86: POPAD")` (47_x86_ext_integer_system.md R581). -/
def execPopad (_s : State) : Host.Outcome State Fault Refusal :=
  .refused (.lx86 "POPAD")

/-- INSD: `refuse("LX86: INSD")` (47_x86_ext_integer_system.md R582). -/
def execInsd (_s : State) : Host.Outcome State Fault Refusal :=
  .refused (.lx86 "INSD")

/-- OUTSD: `refuse("LX86: OUTSD")` (47_x86_ext_integer_system.md R583). -/
def execOutsd (_s : State) : Host.Outcome State Fault Refusal :=
  .refused (.lx86 "OUTSD")

/-- CWDE: `refuse("LX86: CWDE")` (47_x86_ext_integer_system.md R584). -/
def execCwde (_s : State) : Host.Outcome State Fault Refusal :=
  .refused (.lx86 "CWDE")

/-- CDQ: `refuse("LX86: CDQ")` (47_x86_ext_integer_system.md R585). -/
def execCdq (_s : State) : Host.Outcome State Fault Refusal :=
  .refused (.lx86 "CDQ")

/-- PUSHFD: `refuse("LX86: PUSHFD")` (47_x86_ext_integer_system.md R586). -/
def execPushfd (_s : State) : Host.Outcome State Fault Refusal :=
  .refused (.lx86 "PUSHFD")

/-- POPFD: `refuse("LX86: POPFD")` (47_x86_ext_integer_system.md R587). -/
def execPopfd (_s : State) : Host.Outcome State Fault Refusal :=
  .refused (.lx86 "POPFD")

/-- MOVSD: `refuse("LX86: MOVSD")` (47_x86_ext_integer_system.md R588). -/
def execMovsd (_s : State) : Host.Outcome State Fault Refusal :=
  .refused (.lx86 "MOVSD")

/-- CMPSD: `refuse("LX86: CMPSD")` (47_x86_ext_integer_system.md R589). -/
def execCmpsd (_s : State) : Host.Outcome State Fault Refusal :=
  .refused (.lx86 "CMPSD")

/-- STOSD: `refuse("LX86: STOSD")` (47_x86_ext_integer_system.md R594). -/
def execStosd (_s : State) : Host.Outcome State Fault Refusal :=
  .refused (.lx86 "STOSD")

/-- LODSD: `refuse("LX86: LODSD")` (47_x86_ext_integer_system.md R595). -/
def execLodsd (_s : State) : Host.Outcome State Fault Refusal :=
  .refused (.lx86 "LODSD")

/-- SCASD: `refuse("LX86: SCASD")` (47_x86_ext_integer_system.md R596). -/
def execScasd (_s : State) : Host.Outcome State Fault Refusal :=
  .refused (.lx86 "SCASD")

/-- CRC32 r32, r/m8: `refuse("LX86: CRC32")` (47_x86_ext_integer_system.md R606 and R607). -/
def execCrc32 (_w : Width) (_r : RegNum) (_rm : RM) (_s : State) : Host.Outcome State Fault Refusal :=
  .refused (.lx86 "CRC32")

/-- POPCNT reg16, reg/mem16: `refuse("LX86: POPCNT")` (47_x86_ext_integer_system.md R608). -/
def execPopcnt (_r : RegNum) (_rm : RM) (_s : State) : Host.Outcome State Fault Refusal :=
  .refused (.lx86 "POPCNT")

/-- PAUSE: `refuse("LX86: PAUSE")` (47_x86_ext_integer_system.md R609). -/
def execPause (_s : State) : Host.Outcome State Fault Refusal :=
  .refused (.lx86 "PAUSE")

/-- FS: (segment-override prefix): `refuse("LX86: FS:/GS: prefix")` (47_x86_ext_integer_system.md R601). -/
def execOverrideFs (_s : State) : Host.Outcome State Fault Refusal :=
  .refused (.lx86 "FS:/GS: prefix")

/-- GS: (segment-override prefix): `refuse("LX86: FS:/GS: prefix")` (47_x86_ext_integer_system.md R601). -/
def execOverrideGs (_s : State) : Host.Outcome State Fault Refusal :=
  .refused (.lx86 "FS:/GS: prefix")

/-- operand-size_byte (prefix; every use refused): `refuse("LX86: operand-size prefix")` (47_x86_ext_integer_system.md R602). -/
def execOperandSize (_s : State) : Host.Outcome State Fault Refusal :=
  .refused (.lx86 "operand-size prefix")

end Sys2Proof.Machine
end

