-- ==== Sys2Proof/Machine/ExtSimd.lean ====
section
/-! DEFINITION. The packed-data instructions, level LX86: catalogued and refused by name (48_x86_ext_simd.md R630). -/
namespace Sys2Proof.Machine

/-- FEMMS: `refuse("LX86: FEMMS")` (48_x86_ext_simd.md R631). -/
def execFemms (_s : State) : Host.Outcome State Fault Refusal :=
  .refused (.lx86 "FEMMS")

/-- CVTPI2PS xmm,mm/m64: `refuse("LX86: CVTPI2PS")` (48_x86_ext_simd.md R632). -/
def execCvtpi2ps (_r : RegNum) (_rm : RM) (_s : State) : Host.Outcome State Fault Refusal :=
  .refused (.lx86 "CVTPI2PS")

/-- CVTTPS2PI mm,xmm/m64: `refuse("LX86: CVTTPS2PI")` (48_x86_ext_simd.md R633). -/
def execCvttps2pi (_r : RegNum) (_rm : RM) (_s : State) : Host.Outcome State Fault Refusal :=
  .refused (.lx86 "CVTTPS2PI")

/-- CVTPS2PI mm,xmm/m64: `refuse("LX86: CVTPS2PI")` (48_x86_ext_simd.md R634). -/
def execCvtps2pi (_r : RegNum) (_rm : RM) (_s : State) : Host.Outcome State Fault Refusal :=
  .refused (.lx86 "CVTPS2PI")

/-- COMISS xmm1,xmm2/m32: `refuse("LX86: COMISS")` (48_x86_ext_simd.md R635). -/
def execComiss (_r : RegNum) (_rm : RM) (_s : State) : Host.Outcome State Fault Refusal :=
  .refused (.lx86 "COMISS")

/-- ANDPS xmmreg,r/m128: `refuse("LX86: ANDPS")` (48_x86_ext_simd.md R636). -/
def execAndps (_r : RegNum) (_rm : RM) (_s : State) : Host.Outcome State Fault Refusal :=
  .refused (.lx86 "ANDPS")

/-- ANDNPS xmmreg,r/m128: `refuse("LX86: ANDNPS")` (48_x86_ext_simd.md R637). -/
def execAndnps (_r : RegNum) (_rm : RM) (_s : State) : Host.Outcome State Fault Refusal :=
  .refused (.lx86 "ANDNPS")

/-- ADDPS xmm1, xmm2/m128: `refuse("LX86: ADDPS")` (48_x86_ext_simd.md R638). -/
def execAddps (_r : RegNum) (_rm : RM) (_s : State) : Host.Outcome State Fault Refusal :=
  .refused (.lx86 "ADDPS")

/-- CVTPS2PD xmm1, xmm2/m64: `refuse("LX86: CVTPS2PD")` (48_x86_ext_simd.md R639). -/
def execCvtps2pd (_r : RegNum) (_rm : RM) (_s : State) : Host.Outcome State Fault Refusal :=
  .refused (.lx86 "CVTPS2PD")

/-- CVTDQ2PS xmm1, xmm2/m128: `refuse("LX86: CVTDQ2PS")` (48_x86_ext_simd.md R640). -/
def execCvtdq2ps (_r : RegNum) (_rm : RM) (_s : State) : Host.Outcome State Fault Refusal :=
  .refused (.lx86 "CVTDQ2PS")

/-- DIVPS xmm1,xmm2/m128: `refuse("LX86: DIVPS")` (48_x86_ext_simd.md R641). -/
def execDivps (_r : RegNum) (_rm : RM) (_s : State) : Host.Outcome State Fault Refusal :=
  .refused (.lx86 "DIVPS")

/-- EMMS: `refuse("LX86: EMMS")` (48_x86_ext_simd.md R642). -/
def execEmms (_s : State) : Host.Outcome State Fault Refusal :=
  .refused (.lx86 "EMMS")

/-- CMPPS xmm1,xmm2/m128,imm8: `refuse("LX86: CMPPS")` (48_x86_ext_simd.md R643). -/
def execCmpps (_r : RegNum) (_rm : RM) (_b : Byte) (_s : State) : Host.Outcome State Fault Refusal :=
  .refused (.lx86 "CMPPS")

/-- CVTPI2PD xmm, mm/m64: `refuse("LX86: CVTPI2PD")` (48_x86_ext_simd.md R644). -/
def execCvtpi2pd (_r : RegNum) (_rm : RM) (_s : State) : Host.Outcome State Fault Refusal :=
  .refused (.lx86 "CVTPI2PD")

/-- CVTTPD2PI mm, xmm/m128: `refuse("LX86: CVTTPD2PI")` (48_x86_ext_simd.md R645). -/
def execCvttpd2pi (_r : RegNum) (_rm : RM) (_s : State) : Host.Outcome State Fault Refusal :=
  .refused (.lx86 "CVTTPD2PI")

/-- CVTPD2PI mm, xmm/m128: `refuse("LX86: CVTPD2PI")` (48_x86_ext_simd.md R646). -/
def execCvtpd2pi (_r : RegNum) (_rm : RM) (_s : State) : Host.Outcome State Fault Refusal :=
  .refused (.lx86 "CVTPD2PI")

/-- COMISD xmm1,xmm2/m64: `refuse("LX86: COMISD")` (48_x86_ext_simd.md R647). -/
def execComisd (_r : RegNum) (_rm : RM) (_s : State) : Host.Outcome State Fault Refusal :=
  .refused (.lx86 "COMISD")

/-- BLENDVPS xmm1,xmm2/m128,xmm0: `refuse("LX86: BLENDVPS")` (48_x86_ext_simd.md R648). -/
def execBlendvps (_r : RegNum) (_rm : RM) (_s : State) : Host.Outcome State Fault Refusal :=
  .refused (.lx86 "BLENDVPS")

/-- BLENDVPD xmm1,xmm2/m128,xmm0: `refuse("LX86: BLENDVPD")` (48_x86_ext_simd.md R649). -/
def execBlendvpd (_r : RegNum) (_rm : RM) (_s : State) : Host.Outcome State Fault Refusal :=
  .refused (.lx86 "BLENDVPD")

/-- AESIMC xmm1,xmm2/m128: `refuse("LX86: AESIMC")` (48_x86_ext_simd.md R650). -/
def execAesimc (_r : RegNum) (_rm : RM) (_s : State) : Host.Outcome State Fault Refusal :=
  .refused (.lx86 "AESIMC")

/-- AESENC xmm1,xmm2/m128: `refuse("LX86: AESENC")` (48_x86_ext_simd.md R651). -/
def execAesenc (_r : RegNum) (_rm : RM) (_s : State) : Host.Outcome State Fault Refusal :=
  .refused (.lx86 "AESENC")

/-- AESENCLAST xmm1,xmm2/m128: `refuse("LX86: AESENCLAST")` (48_x86_ext_simd.md R652). -/
def execAesenclast (_r : RegNum) (_rm : RM) (_s : State) : Host.Outcome State Fault Refusal :=
  .refused (.lx86 "AESENCLAST")

/-- AESDEC xmm1,xmm2/m128: `refuse("LX86: AESDEC")` (48_x86_ext_simd.md R653). -/
def execAesdec (_r : RegNum) (_rm : RM) (_s : State) : Host.Outcome State Fault Refusal :=
  .refused (.lx86 "AESDEC")

/-- AESDECLAST xmm1,xmm2/m128: `refuse("LX86: AESDECLAST")` (48_x86_ext_simd.md R654). -/
def execAesdeclast (_r : RegNum) (_rm : RM) (_s : State) : Host.Outcome State Fault Refusal :=
  .refused (.lx86 "AESDECLAST")

/-- BLENDPS xmm1,xmm2/m128,imm8: `refuse("LX86: BLENDPS")` (48_x86_ext_simd.md R655). -/
def execBlendps (_r : RegNum) (_rm : RM) (_b : Byte) (_s : State) : Host.Outcome State Fault Refusal :=
  .refused (.lx86 "BLENDPS")

/-- BLENDPD xmm1,xmm2/m128,imm8: `refuse("LX86: BLENDPD")` (48_x86_ext_simd.md R656). -/
def execBlendpd (_r : RegNum) (_rm : RM) (_b : Byte) (_s : State) : Host.Outcome State Fault Refusal :=
  .refused (.lx86 "BLENDPD")

/-- DPPS xmm1,xmm2/m128,imm8: `refuse("LX86: DPPS")` (48_x86_ext_simd.md R657). -/
def execDpps (_r : RegNum) (_rm : RM) (_b : Byte) (_s : State) : Host.Outcome State Fault Refusal :=
  .refused (.lx86 "DPPS")

/-- DPPD xmm1,xmm2/m128,imm8: `refuse("LX86: DPPD")` (48_x86_ext_simd.md R658). -/
def execDppd (_r : RegNum) (_rm : RM) (_b : Byte) (_s : State) : Host.Outcome State Fault Refusal :=
  .refused (.lx86 "DPPD")

/-- AESKEYGENASSIST xmm1,xmm2/m128,imm8: `refuse("LX86: AESKEYGENASSIST")` (48_x86_ext_simd.md R659). -/
def execAeskeygenassist (_r : RegNum) (_rm : RM) (_b : Byte) (_s : State) : Host.Outcome State Fault Refusal :=
  .refused (.lx86 "AESKEYGENASSIST")

/-- ANDPD xmm1, xmm2/m128: `refuse("LX86: ANDPD")` (48_x86_ext_simd.md R660). -/
def execAndpd (_r : RegNum) (_rm : RM) (_s : State) : Host.Outcome State Fault Refusal :=
  .refused (.lx86 "ANDPD")

/-- ANDNPD xmm1, xmm2/m128: `refuse("LX86: ANDNPD")` (48_x86_ext_simd.md R661). -/
def execAndnpd (_r : RegNum) (_rm : RM) (_s : State) : Host.Outcome State Fault Refusal :=
  .refused (.lx86 "ANDNPD")

/-- ADDPD xmm1, xmm2/m128: `refuse("LX86: ADDPD")` (48_x86_ext_simd.md R662). -/
def execAddpd (_r : RegNum) (_rm : RM) (_s : State) : Host.Outcome State Fault Refusal :=
  .refused (.lx86 "ADDPD")

/-- CVTPD2PS xmm1, xmm2/m128: `refuse("LX86: CVTPD2PS")` (48_x86_ext_simd.md R663). -/
def execCvtpd2ps (_r : RegNum) (_rm : RM) (_s : State) : Host.Outcome State Fault Refusal :=
  .refused (.lx86 "CVTPD2PS")

/-- CVTPS2DQ xmm1, xmm2/m128: `refuse("LX86: CVTPS2DQ")` (48_x86_ext_simd.md R664). -/
def execCvtps2dq (_r : RegNum) (_rm : RM) (_s : State) : Host.Outcome State Fault Refusal :=
  .refused (.lx86 "CVTPS2DQ")

/-- DIVPD xmm1, xmm2/m128: `refuse("LX86: DIVPD")` (48_x86_ext_simd.md R665). -/
def execDivpd (_r : RegNum) (_rm : RM) (_s : State) : Host.Outcome State Fault Refusal :=
  .refused (.lx86 "DIVPD")

/-- CMPPD xmm1,xmm2/m128,imm8: `refuse("LX86: CMPPD")` (48_x86_ext_simd.md R666). -/
def execCmppd (_r : RegNum) (_rm : RM) (_b : Byte) (_s : State) : Host.Outcome State Fault Refusal :=
  .refused (.lx86 "CMPPD")

/-- ADDSUBPD xmm1, xmm2/m128: `refuse("LX86: ADDSUBPD")` (48_x86_ext_simd.md R667). -/
def execAddsubpd (_r : RegNum) (_rm : RM) (_s : State) : Host.Outcome State Fault Refusal :=
  .refused (.lx86 "ADDSUBPD")

/-- CVTTPD2DQ xmm1, xmm2/m128: `refuse("LX86: CVTTPD2DQ")` (48_x86_ext_simd.md R668). -/
def execCvttpd2dq (_r : RegNum) (_rm : RM) (_s : State) : Host.Outcome State Fault Refusal :=
  .refused (.lx86 "CVTTPD2DQ")

/-- CVTSI2SD xmm, r/m32: `refuse("LX86: CVTSI2SD")` (48_x86_ext_simd.md R669). -/
def execCvtsi2sd (_r : RegNum) (_rm : RM) (_s : State) : Host.Outcome State Fault Refusal :=
  .refused (.lx86 "CVTSI2SD")

/-- CVTTSD2SI r32, xmm/m64: `refuse("LX86: CVTTSD2SI")` (48_x86_ext_simd.md R670). -/
def execCvttsd2si (_r : RegNum) (_rm : RM) (_s : State) : Host.Outcome State Fault Refusal :=
  .refused (.lx86 "CVTTSD2SI")

/-- CVTSD2SI r32, xmm/m64: `refuse("LX86: CVTSD2SI")` (48_x86_ext_simd.md R671). -/
def execCvtsd2si (_r : RegNum) (_rm : RM) (_s : State) : Host.Outcome State Fault Refusal :=
  .refused (.lx86 "CVTSD2SI")

/-- ADDSD xmm1, xmm2/m128: `refuse("LX86: ADDSD")` (48_x86_ext_simd.md R672). -/
def execAddsd (_r : RegNum) (_rm : RM) (_s : State) : Host.Outcome State Fault Refusal :=
  .refused (.lx86 "ADDSD")

/-- CVTSD2SS xmm1, xmm2/m64: `refuse("LX86: CVTSD2SS")` (48_x86_ext_simd.md R673). -/
def execCvtsd2ss (_r : RegNum) (_rm : RM) (_s : State) : Host.Outcome State Fault Refusal :=
  .refused (.lx86 "CVTSD2SS")

/-- DIVSD xmm1, xmm2/m64: `refuse("LX86: DIVSD")` (48_x86_ext_simd.md R674). -/
def execDivsd (_r : RegNum) (_rm : RM) (_s : State) : Host.Outcome State Fault Refusal :=
  .refused (.lx86 "DIVSD")

/-- CMPSD xmm1,xmm2/m64, imm8: `refuse("LX86: CMPSD")` (48_x86_ext_simd.md R677). -/
def execCmpsdScalar (_r : RegNum) (_rm : RM) (_b : Byte) (_s : State) : Host.Outcome State Fault Refusal :=
  .refused (.lx86 "CMPSD")

/-- ADDSUBPS xmm1, xmm2/m128: `refuse("LX86: ADDSUBPS")` (48_x86_ext_simd.md R675). -/
def execAddsubps (_r : RegNum) (_rm : RM) (_s : State) : Host.Outcome State Fault Refusal :=
  .refused (.lx86 "ADDSUBPS")

/-- CVTPD2DQ xmm1, xmm2/m128: `refuse("LX86: CVTPD2DQ")` (48_x86_ext_simd.md R676). -/
def execCvtpd2dq (_r : RegNum) (_rm : RM) (_s : State) : Host.Outcome State Fault Refusal :=
  .refused (.lx86 "CVTPD2DQ")

/-- CVTSI2SS xmm,r/m32: `refuse("LX86: CVTSI2SS")` (48_x86_ext_simd.md R678). -/
def execCvtsi2ss (_r : RegNum) (_rm : RM) (_s : State) : Host.Outcome State Fault Refusal :=
  .refused (.lx86 "CVTSI2SS")

/-- CVTTSS2SI r32,xmm/m32: `refuse("LX86: CVTTSS2SI")` (48_x86_ext_simd.md R679). -/
def execCvttss2si (_r : RegNum) (_rm : RM) (_s : State) : Host.Outcome State Fault Refusal :=
  .refused (.lx86 "CVTTSS2SI")

/-- CVTSS2SI r32,xmm/m32: `refuse("LX86: CVTSS2SI")` (48_x86_ext_simd.md R680). -/
def execCvtss2si (_r : RegNum) (_rm : RM) (_s : State) : Host.Outcome State Fault Refusal :=
  .refused (.lx86 "CVTSS2SI")

/-- ADDSS xmm1, xmm2/m32: `refuse("LX86: ADDSS")` (48_x86_ext_simd.md R681). -/
def execAddss (_r : RegNum) (_rm : RM) (_s : State) : Host.Outcome State Fault Refusal :=
  .refused (.lx86 "ADDSS")

/-- CVTSS2SD xmm1, xmm2/m32: `refuse("LX86: CVTSS2SD")` (48_x86_ext_simd.md R682). -/
def execCvtss2sd (_r : RegNum) (_rm : RM) (_s : State) : Host.Outcome State Fault Refusal :=
  .refused (.lx86 "CVTSS2SD")

/-- CVTTPS2DQ xmm1, xmm2/m128: `refuse("LX86: CVTTPS2DQ")` (48_x86_ext_simd.md R683). -/
def execCvttps2dq (_r : RegNum) (_rm : RM) (_s : State) : Host.Outcome State Fault Refusal :=
  .refused (.lx86 "CVTTPS2DQ")

/-- DIVSS xmm1,xmm2/m128: `refuse("LX86: DIVSS")` (48_x86_ext_simd.md R685). -/
def execDivss (_r : RegNum) (_rm : RM) (_s : State) : Host.Outcome State Fault Refusal :=
  .refused (.lx86 "DIVSS")

/-- CMPSS xmm1,xmm2/m128,imm8: `refuse("LX86: CMPSS")` (48_x86_ext_simd.md R684). -/
def execCmpss (_r : RegNum) (_rm : RM) (_b : Byte) (_s : State) : Host.Outcome State Fault Refusal :=
  .refused (.lx86 "CMPSS")

/-- CVTDQ2PD xmm1, xmm2/m64: `refuse("LX86: CVTDQ2PD")` (48_x86_ext_simd.md R686). -/
def execCvtdq2pd (_r : RegNum) (_rm : RM) (_s : State) : Host.Outcome State Fault Refusal :=
  .refused (.lx86 "CVTDQ2PD")

end Sys2Proof.Machine
end

