-- ==== Sys2Proof/Machine/FlagControl.lean ====
section
/-! DEFINITION. The flag and processor-control instructions and the prefix bytes (45_flag_processor_control.md;
30_encoding.md R140). -/
namespace Sys2Proof.Machine

/-- CLC (45_flag_processor_control.md R430). -/
def execClc (s : State) : Host.Outcome State Fault Refusal :=
  .next (s.setFlags { s.flags with cf := false })

/-- STC (45_flag_processor_control.md R431). -/
def execStc (s : State) : Host.Outcome State Fault Refusal :=
  .next (s.setFlags { s.flags with cf := true })

/-- CMC (45_flag_processor_control.md R433). -/
def execCmc (s : State) : Host.Outcome State Fault Refusal :=
  .next (s.setFlags { s.flags with cf := !s.flags.cf })

/-- CLD (45_flag_processor_control.md R434). -/
def execCld (s : State) : Host.Outcome State Fault Refusal :=
  .next (s.setFlags { s.flags with df := false })

/-- STD (45_flag_processor_control.md R435). -/
def execStd (s : State) : Host.Outcome State Fault Refusal :=
  .next (s.setFlags { s.flags with df := true })

/-- CLI (45_flag_processor_control.md R436). -/
def execCli (s : State) : Host.Outcome State Fault Refusal :=
  .next (s.setFlags { s.flags with ifl := false })

/-- STI (45_flag_processor_control.md R437). -/
def execSti (s : State) : Host.Outcome State Fault Refusal :=
  .next ((s.setFlags { s.flags with ifl := true }).setIntInhibit true)

/-- HLT (45_flag_processor_control.md R440). -/
def execHlt (s : State) : Host.Outcome State Fault Refusal :=
  .next (s.setHalted true)

/-- WAIT (45_flag_processor_control.md R441). -/
def execWait (s : State) : Host.Outcome State Fault Refusal :=
  .next (if s.lines.test then s else s.setWaiting true)

/-- NOP (45_flag_processor_control.md R444). -/
def execNop (s : State) : Host.Outcome State Fault Refusal :=
  .next (s)

/-- ESC with no coprocessor: a word read of a memory operand, its value discarded; nothing for a register (R443). -/
def escOp (rm : RM) : Op Unit := do
  match (← get).locate rm with
  | .reg _ => pure ()
  | .mem seg off => do let _ ← load .word seg off

/-- ESC opcode, r/m (45_flag_processor_control.md R443; entries 30 and 33). -/
def execEsc (_t _l : BitVec 3) (rm : RM) (s : State) : Host.Outcome State Fault Refusal :=
  match s.cfg.coprocessor with
  | true => .refused .coprocessorPresent
  | false => runOp (escOp rm) s

/-- A segment-override prefix byte: the last one wins (30_encoding.md R140; R445). -/
def State.overrideSeg (s : State) (n : SReg) : State := s.setPfx { s.pfx with active := true, seg := some n }

/-- A repeat prefix byte: the last one wins (30_encoding.md R140, R142). -/
def State.repeatPrefix (s : State) (k : RepKind) : State := s.setPfx { s.pfx with active := true, rep := some k }

/-- ES: (segment-override prefix) (45_flag_processor_control.md R445). -/
def execOverrideEs (s : State) : Host.Outcome State Fault Refusal :=
  .next (s.overrideSeg .es)

/-- CS: (segment-override prefix) (45_flag_processor_control.md R445). -/
def execOverrideCs (s : State) : Host.Outcome State Fault Refusal :=
  .next (s.overrideSeg .cs)

/-- SS: (segment-override prefix) (45_flag_processor_control.md R445). -/
def execOverrideSs (s : State) : Host.Outcome State Fault Refusal :=
  .next (s.overrideSeg .ss)

/-- DS: (segment-override prefix) (45_flag_processor_control.md R445). -/
def execOverrideDs (s : State) : Host.Outcome State Fault Refusal :=
  .next (s.overrideSeg .ds)

/-- REP_REPE_REPZ (prefix) (43_string.md R345). -/
def execRep (s : State) : Host.Outcome State Fault Refusal :=
  .next (s.repeatPrefix .rep)

/-- REPNE_REPNZ (prefix) (43_string.md R347). -/
def execRepne (s : State) : Host.Outcome State Fault Refusal :=
  .next (s.repeatPrefix .repne)

/-- LOCK (prefix) (45_flag_processor_control.md R442). -/
def execLock (s : State) : Host.Outcome State Fault Refusal :=
  .next (s.setPfx { s.pfx with active := true, lock := true })

end Sys2Proof.Machine
end

