-- ==== Sys2Proof/Machine/Logic.lean ====
section
/-! DEFINITION. The logic instructions (42_logic_shift_rotate.md R300 to R304). -/
namespace Sys2Proof.Machine

/-- `logic_N(res)`: the flags, AF drawn (10_state.md R43). -/
def logicOp (w : Width) (res : BitVec w.bits) : Op (BitVec w.bits) := do
  let u ← draw
  Op.update fun s => s.setFlags (s.flags.logic res u)
  return res

/-- AND and TEST (R301, R304). -/
def andOp (w : Width) (a b : BitVec w.bits) : Op (BitVec w.bits) := logicOp w (a &&& b)

/-- OR (R302). -/
def orOp (w : Width) (a b : BitVec w.bits) : Op (BitVec w.bits) := logicOp w (a ||| b)

/-- XOR (R303). -/
def xorOp (w : Width) (a b : BitVec w.bits) : Op (BitVec w.bits) := logicOp w (a ^^^ b)

/-- NOT: no flag changes (R300). -/
def notOp (w : Width) (a : BitVec w.bits) : Op (BitVec w.bits) := return ~~~a

/-- OR r/m, r (42_logic_shift_rotate.md R302). -/
def execOrRmReg (w : Width) (rm : RM) (r : RegNum) (s : State) : Host.Outcome State Fault Refusal :=
  runOp (binRmReg orOp w rm r) s

/-- OR r, r/m (42_logic_shift_rotate.md R302). -/
def execOrRegRm (w : Width) (r : RegNum) (rm : RM) (s : State) : Host.Outcome State Fault Refusal :=
  runOp (binRegRm orOp w r rm) s

/-- OR AL/AX, imm (42_logic_shift_rotate.md R302). -/
def execOrAcc (imm : Imm) (s : State) : Host.Outcome State Fault Refusal :=
  runOp (binAcc orOp imm) s

/-- OR r/m, imm (42_logic_shift_rotate.md R302). -/
def execOrRmImm (rm : RM) (imm : Imm) (s : State) : Host.Outcome State Fault Refusal :=
  runOp (binRmImm orOp rm imm) s

/-- AND r/m, r (42_logic_shift_rotate.md R301). -/
def execAndRmReg (w : Width) (rm : RM) (r : RegNum) (s : State) : Host.Outcome State Fault Refusal :=
  runOp (binRmReg andOp w rm r) s

/-- AND r, r/m (42_logic_shift_rotate.md R301). -/
def execAndRegRm (w : Width) (r : RegNum) (rm : RM) (s : State) : Host.Outcome State Fault Refusal :=
  runOp (binRegRm andOp w r rm) s

/-- AND AL/AX, imm (42_logic_shift_rotate.md R301). -/
def execAndAcc (imm : Imm) (s : State) : Host.Outcome State Fault Refusal :=
  runOp (binAcc andOp imm) s

/-- AND r/m, imm (42_logic_shift_rotate.md R301). -/
def execAndRmImm (rm : RM) (imm : Imm) (s : State) : Host.Outcome State Fault Refusal :=
  runOp (binRmImm andOp rm imm) s

/-- AND r/m16, ib (sign-extended) (42_logic_shift_rotate.md R301). -/
def execAndRmImm8 (rm : RM) (b : Byte) (s : State) : Host.Outcome State Fault Refusal :=
  runOp (binRmVal andOp .word rm (sext16 b)) s

/-- XOR r/m, r (42_logic_shift_rotate.md R303). -/
def execXorRmReg (w : Width) (rm : RM) (r : RegNum) (s : State) : Host.Outcome State Fault Refusal :=
  runOp (binRmReg xorOp w rm r) s

/-- XOR r, r/m (42_logic_shift_rotate.md R303). -/
def execXorRegRm (w : Width) (r : RegNum) (rm : RM) (s : State) : Host.Outcome State Fault Refusal :=
  runOp (binRegRm xorOp w r rm) s

/-- XOR AL/AX, imm (42_logic_shift_rotate.md R303). -/
def execXorAcc (imm : Imm) (s : State) : Host.Outcome State Fault Refusal :=
  runOp (binAcc xorOp imm) s

/-- XOR r/m, imm (42_logic_shift_rotate.md R303). -/
def execXorRmImm (rm : RM) (imm : Imm) (s : State) : Host.Outcome State Fault Refusal :=
  runOp (binRmImm xorOp rm imm) s

/-- TEST r/m, r (42_logic_shift_rotate.md R304). -/
def execTestRmReg (w : Width) (rm : RM) (r : RegNum) (s : State) : Host.Outcome State Fault Refusal :=
  runOp (testRmReg andOp w rm r) s

/-- TEST AL/AX, imm (42_logic_shift_rotate.md R304). -/
def execTestAcc (imm : Imm) (s : State) : Host.Outcome State Fault Refusal :=
  runOp (testAcc andOp imm) s

/-- TEST r/m, imm (42_logic_shift_rotate.md R304). -/
def execTestRmImm (rm : RM) (imm : Imm) (s : State) : Host.Outcome State Fault Refusal :=
  runOp (testRmImm andOp rm imm) s

/-- NOT r/m (42_logic_shift_rotate.md R300). -/
def execNotRm (w : Width) (rm : RM) (s : State) : Host.Outcome State Fault Refusal :=
  runOp (unary notOp w rm) s

end Sys2Proof.Machine
end

