-- ==== Sys2Proof/Machine/Shift.lean ====
section
/-! DEFINITION. The shifts and rotates (42_logic_shift_rotate.md R310 to R317). -/
namespace Sys2Proof.Machine

/-- The count of a shift or rotate (R310, `SHIFT_COUNT_MASK`). -/
def State.shiftCount (s : State) : ShiftBy → Nat
  | .one => 1
  | .cl =>
    match s.cfg.countMask with
    | .none => (s.reg8 .cl).toNat
    | .mask5 => (s.reg8 .cl).toNat % 32

/-- Whether a shift or rotate by `count` leaves some flag unspecified (R310). -/
def ShiftKind.draws (k : ShiftKind) (count : Nat) : Bool := decide (1 < count) || (k.isShift && decide (count = 1))

/-- A shift or rotate of an r/m operand (R310): read, `count` one-bit steps, write. -/
def shiftRm (k : ShiftKind) (w : Width) (n : ShiftBy) (rm : RM) : Op Unit := do
  let s ← get
  let l := s.locate rm
  let count := s.shiftCount n
  let x ← readLoc w l
  let (y, c) := k.steps count (x, s.flags.cf)
  let u ← if k.draws count then draw else pure 0
  Op.update fun s => (s.setFlags (s.flags.shifted k count x y c u)).writeLoc w l y

/-- ROL r/m, 1/CL (42_logic_shift_rotate.md R311). -/
def execRol (w : Width) (n : ShiftBy) (rm : RM) (s : State) : Host.Outcome State Fault Refusal :=
  runOp (shiftRm .rol w n rm) s

/-- ROR r/m, 1/CL (42_logic_shift_rotate.md R312). -/
def execRor (w : Width) (n : ShiftBy) (rm : RM) (s : State) : Host.Outcome State Fault Refusal :=
  runOp (shiftRm .ror w n rm) s

/-- RCL r/m, 1/CL (42_logic_shift_rotate.md R313). -/
def execRcl (w : Width) (n : ShiftBy) (rm : RM) (s : State) : Host.Outcome State Fault Refusal :=
  runOp (shiftRm .rcl w n rm) s

/-- RCR r/m, 1/CL (42_logic_shift_rotate.md R314). -/
def execRcr (w : Width) (n : ShiftBy) (rm : RM) (s : State) : Host.Outcome State Fault Refusal :=
  runOp (shiftRm .rcr w n rm) s

/-- SHL_SAL r/m, 1/CL (42_logic_shift_rotate.md R315). -/
def execShl (w : Width) (n : ShiftBy) (rm : RM) (s : State) : Host.Outcome State Fault Refusal :=
  runOp (shiftRm .shl w n rm) s

/-- SHR r/m, 1/CL (42_logic_shift_rotate.md R316). -/
def execShr (w : Width) (n : ShiftBy) (rm : RM) (s : State) : Host.Outcome State Fault Refusal :=
  runOp (shiftRm .shr w n rm) s

/-- SAR r/m, 1/CL (42_logic_shift_rotate.md R317). -/
def execSar (w : Width) (n : ShiftBy) (rm : RM) (s : State) : Host.Outcome State Fault Refusal :=
  runOp (shiftRm .sar w n rm) s

end Sys2Proof.Machine
end

