-- ==== Sys2Proof/Machine/Strings.lean ====
section
/-! DEFINITION. The string instructions and their repetition (43_string.md). -/
namespace Sys2Proof.Machine

/-- `delta`: the size of an element, negative when DF = 1 (R330). -/
def State.delta (s : State) (w : Width) : Word :=
  if s.flags.df then -(BitVec.ofNat 16 w.bytes) else BitVec.ofNat 16 w.bytes

/-- `SI <- SI + delta` (R330). -/
def State.stepSi (s : State) (w : Width) : State := s.setReg16 .si (s.regs.si + s.delta w)

/-- `DI <- DI + delta` (R330). -/
def State.stepDi (s : State) (w : Width) : State := s.setReg16 .di (s.regs.di + s.delta w)

/-- The source element at `src_seg:SI` (R330). -/
def readSource (w : Width) : Op (BitVec w.bits) := do
  let s ← get
  load w (s.segOr .ds) s.regs.si

/-- The destination element at ES:DI, read (R330). -/
def readDestination (w : Width) : Op (BitVec w.bits) := do
  let s ← get
  load w s.segs.es s.regs.di

/-- The destination element at ES:DI, written (R330). -/
def State.writeDestination (s : State) (w : Width) (v : BitVec w.bits) : State := s.store w s.segs.es s.regs.di v

/-- One element of MOVS (R331). -/
def movsElement (w : Width) : Op Unit := do
  let v ← readSource w
  Op.update fun s => ((s.writeDestination w v).stepSi w).stepDi w

/-- One element of CMPS: source minus destination (R332). -/
def cmpsElement (w : Width) : Op Unit := do
  let a ← readSource w
  let b ← readDestination w
  let _ ← subOp w a b
  Op.update fun s => (s.stepSi w).stepDi w

/-- One element of SCAS: accumulator minus destination (R333). -/
def scasElement (w : Width) : Op Unit := do
  let b ← readDestination w
  let _ ← subOp w ((← get).reg w acc) b
  Op.update (·.stepDi w)

/-- One element of LODS (R334). -/
def lodsElement (w : Width) : Op Unit := do
  let v ← readSource w
  Op.update fun s => (s.setReg w acc v).stepSi w

/-- One element of STOS (R335). -/
def stosElement (w : Width) : Op Unit :=
  Op.update fun s => (s.writeDestination w (s.reg w acc)).stepDi w

/-- One element of INS (R340). -/
def insElement (w : Width) : Op Unit := do
  let v ← ioRead w (← get).regs.dx
  Op.update fun s => (s.writeDestination w v).stepDi w

/-- One element of OUTS (R341). -/
def outsElement (w : Width) : Op Unit := do
  let v ← readSource w
  Op.update fun s => (s.ioWrite w s.regs.dx v).stepSi w

/-- A string instruction `i` under the prefix state (R330, R345 to R348): without a repeat prefix one element; with one, nothing
for CX = 0, else one element and `CX <- CX - 1`, and `State.repeating` says whether elements remain. `compares` says that the
instruction compares (CMPS, SCAS), so that ZF ends the repetition and F2h has a meaning. -/
def stringInstr (i : Instr) (compares : Bool) (element : Op Unit) : Op Unit := do
  match (← get).pfx.rep with
  | none => element
  | some k =>
    if k = .repne ∧ compares = false then Op.refuse .repneOnNonComparing
    else if (← get).regs.cx = 0 then Op.update (·.setRepeating none)
    else
      element
      Op.update fun s =>
        let s := s.setReg16 .cx (s.regs.cx - 1)
        let goesOn := s.regs.cx != 0 && (!compares || s.flags.zf == (k == .rep))
        s.setRepeating (if goesOn then some i else none)

/-- MOVSB_MOVSW (43_string.md R331). -/
def execMovs (w : Width) (s : State) : Host.Outcome State Fault Refusal :=
  runOp (stringInstr (.movs w) false (movsElement w)) s

/-- CMPSB_CMPSW (43_string.md R332). -/
def execCmps (w : Width) (s : State) : Host.Outcome State Fault Refusal :=
  runOp (stringInstr (.cmps w) true (cmpsElement w)) s

/-- SCASB_SCASW (43_string.md R333). -/
def execScas (w : Width) (s : State) : Host.Outcome State Fault Refusal :=
  runOp (stringInstr (.scas w) true (scasElement w)) s

/-- LODSB_LODSW (43_string.md R334). -/
def execLods (w : Width) (s : State) : Host.Outcome State Fault Refusal :=
  runOp (stringInstr (.lods w) false (lodsElement w)) s

/-- STOSB_STOSW (43_string.md R335). -/
def execStos (w : Width) (s : State) : Host.Outcome State Fault Refusal :=
  runOp (stringInstr (.stos w) false (stosElement w)) s

/-- INSB_INSW (43_string.md R340). -/
def execIns (w : Width) (s : State) : Host.Outcome State Fault Refusal :=
  runOp (stringInstr (.ins w) false (insElement w)) s

/-- OUTSB_OUTSW (43_string.md R341). -/
def execOuts (w : Width) (s : State) : Host.Outcome State Fault Refusal :=
  runOp (stringInstr (.outs w) false (outsElement w)) s

end Sys2Proof.Machine
end

