-- ==== Sys2Proof/Machine/X87.lean ====
section
/-! DEFINITION. The x87 instructions that DOC0 names, level LX86: catalogued and refused by name (46_x87_escape.md R460). -/
namespace Sys2Proof.Machine

/-- FADD mem32: `refuse("LX86: FADD")` (46_x87_escape.md R461 and R489). -/
def execFaddMem (_z : X87Size) (_m : MemEA) (_s : State) : Host.Outcome State Fault Refusal :=
  .refused (.lx86 "FADD")

/-- FCOM mem32: `refuse("LX86: FCOM")` (46_x87_escape.md R462 and R490). -/
def execFcomMem (_z : X87Size) (_m : MemEA) (_s : State) : Host.Outcome State Fault Refusal :=
  .refused (.lx86 "FCOM")

/-- FCOMP mem32: `refuse("LX86: FCOMP")` (46_x87_escape.md R463 and R491). -/
def execFcompMem (_z : X87Size) (_m : MemEA) (_s : State) : Host.Outcome State Fault Refusal :=
  .refused (.lx86 "FCOMP")

/-- FDIV mem32: `refuse("LX86: FDIV")` (46_x87_escape.md R464 and R492). -/
def execFdivMem (_z : X87Size) (_m : MemEA) (_s : State) : Host.Outcome State Fault Refusal :=
  .refused (.lx86 "FDIV")

/-- FDIVR mem32: `refuse("LX86: FDIVR")` (46_x87_escape.md R465 and R493). -/
def execFdivrMem (_z : X87Size) (_m : MemEA) (_s : State) : Host.Outcome State Fault Refusal :=
  .refused (.lx86 "FDIVR")

/-- FADD fpureg: `refuse("LX86: FADD")` (46_x87_escape.md R467). -/
def execFaddReg (_r : RegNum) (_s : State) : Host.Outcome State Fault Refusal :=
  .refused (.lx86 "FADD")

/-- FCOM fpureg: `refuse("LX86: FCOM")` (46_x87_escape.md R468). -/
def execFcomReg (_r : RegNum) (_s : State) : Host.Outcome State Fault Refusal :=
  .refused (.lx86 "FCOM")

/-- FCOMP fpureg: `refuse("LX86: FCOMP")` (46_x87_escape.md R469). -/
def execFcompReg (_r : RegNum) (_s : State) : Host.Outcome State Fault Refusal :=
  .refused (.lx86 "FCOMP")

/-- FDIV fpureg: `refuse("LX86: FDIV")` (46_x87_escape.md R470). -/
def execFdivReg (_r : RegNum) (_s : State) : Host.Outcome State Fault Refusal :=
  .refused (.lx86 "FDIV")

/-- FDIVR fpureg: `refuse("LX86: FDIVR")` (46_x87_escape.md R471). -/
def execFdivrReg (_r : RegNum) (_s : State) : Host.Outcome State Fault Refusal :=
  .refused (.lx86 "FDIVR")

/-- FCHS: `refuse("LX86: FCHS")` (46_x87_escape.md R472). -/
def execFchs (_s : State) : Host.Outcome State Fault Refusal :=
  .refused (.lx86 "FCHS")

/-- FABS: `refuse("LX86: FABS")` (46_x87_escape.md R473). -/
def execFabs (_s : State) : Host.Outcome State Fault Refusal :=
  .refused (.lx86 "FABS")

/-- F2XM1: `refuse("LX86: F2XM1")` (46_x87_escape.md R474). -/
def execF2xm1 (_s : State) : Host.Outcome State Fault Refusal :=
  .refused (.lx86 "F2XM1")

/-- FDECSTP: `refuse("LX86: FDECSTP")` (46_x87_escape.md R475). -/
def execFdecstp (_s : State) : Host.Outcome State Fault Refusal :=
  .refused (.lx86 "FDECSTP")

/-- FCOS: `refuse("LX86: FCOS")` (46_x87_escape.md R476). -/
def execFcos (_s : State) : Host.Outcome State Fault Refusal :=
  .refused (.lx86 "FCOS")

/-- FIADD mem32: `refuse("LX86: FIADD")` (46_x87_escape.md R477 and R498). -/
def execFiaddMem (_z : X87Size) (_m : MemEA) (_s : State) : Host.Outcome State Fault Refusal :=
  .refused (.lx86 "FIADD")

/-- FCMOVB ST,STi: `refuse("LX86: FCMOVB")` (46_x87_escape.md R478). -/
def execFcmovb (_r : RegNum) (_s : State) : Host.Outcome State Fault Refusal :=
  .refused (.lx86 "FCMOVB")

/-- FCMOVE ST,STi: `refuse("LX86: FCMOVE")` (46_x87_escape.md R479). -/
def execFcmove (_r : RegNum) (_s : State) : Host.Outcome State Fault Refusal :=
  .refused (.lx86 "FCMOVE")

/-- FCMOVBE ST,STi: `refuse("LX86: FCMOVBE")` (46_x87_escape.md R480). -/
def execFcmovbe (_r : RegNum) (_s : State) : Host.Outcome State Fault Refusal :=
  .refused (.lx86 "FCMOVBE")

/-- FCMOVU ST,STi: `refuse("LX86: FCMOVU")` (46_x87_escape.md R481). -/
def execFcmovu (_r : RegNum) (_s : State) : Host.Outcome State Fault Refusal :=
  .refused (.lx86 "FCMOVU")

/-- FCMOVNB ST,STi: `refuse("LX86: FCMOVNB")` (46_x87_escape.md R482). -/
def execFcmovnb (_r : RegNum) (_s : State) : Host.Outcome State Fault Refusal :=
  .refused (.lx86 "FCMOVNB")

/-- FCMOVNE ST,STi: `refuse("LX86: FCMOVNE")` (46_x87_escape.md R483). -/
def execFcmovne (_r : RegNum) (_s : State) : Host.Outcome State Fault Refusal :=
  .refused (.lx86 "FCMOVNE")

/-- FCMOVNBE ST,STi: `refuse("LX86: FCMOVNBE")` (46_x87_escape.md R484). -/
def execFcmovnbe (_r : RegNum) (_s : State) : Host.Outcome State Fault Refusal :=
  .refused (.lx86 "FCMOVNBE")

/-- FCMOVNU ST,STi: `refuse("LX86: FCMOVNU")` (46_x87_escape.md R485). -/
def execFcmovnu (_r : RegNum) (_s : State) : Host.Outcome State Fault Refusal :=
  .refused (.lx86 "FCMOVNU")

/-- FSETPM: `refuse("LX86: FSETPM")` (46_x87_escape.md R486). -/
def execFsetpm (_s : State) : Host.Outcome State Fault Refusal :=
  .refused (.lx86 "FSETPM")

/-- FUCOMI ST, ST(i): `refuse("LX86: FUCOMI")` (46_x87_escape.md R487). -/
def execFucomi (_r : RegNum) (_s : State) : Host.Outcome State Fault Refusal :=
  .refused (.lx86 "FUCOMI")

/-- FCOMI ST, ST(i): `refuse("LX86: FCOMI")` (46_x87_escape.md R488). -/
def execFcomi (_r : RegNum) (_s : State) : Host.Outcome State Fault Refusal :=
  .refused (.lx86 "FCOMI")

/-- FADD fpureg,ST0: `refuse("LX86: FADD")` (46_x87_escape.md R494). -/
def execFaddRegSt0 (_r : RegNum) (_s : State) : Host.Outcome State Fault Refusal :=
  .refused (.lx86 "FADD")

/-- FDIVR fpureg,ST0: `refuse("LX86: FDIVR")` (46_x87_escape.md R495). -/
def execFdivrRegSt0 (_r : RegNum) (_s : State) : Host.Outcome State Fault Refusal :=
  .refused (.lx86 "FDIVR")

/-- FDIV fpureg,ST0: `refuse("LX86: FDIV")` (46_x87_escape.md R496). -/
def execFdivRegSt0 (_r : RegNum) (_s : State) : Host.Outcome State Fault Refusal :=
  .refused (.lx86 "FDIV")

/-- FFREE fpureg: `refuse("LX86: FFREE")` (46_x87_escape.md R497). -/
def execFfree (_r : RegNum) (_s : State) : Host.Outcome State Fault Refusal :=
  .refused (.lx86 "FFREE")

/-- FADDP fpureg: `refuse("LX86: FADDP")` (46_x87_escape.md R499). -/
def execFaddp (_r : RegNum) (_s : State) : Host.Outcome State Fault Refusal :=
  .refused (.lx86 "FADDP")

/-- FCOMPP: `refuse("LX86: FCOMPP")` (46_x87_escape.md R500). -/
def execFcompp (_s : State) : Host.Outcome State Fault Refusal :=
  .refused (.lx86 "FCOMPP")

/-- FDIVRP fpureg: `refuse("LX86: FDIVRP")` (46_x87_escape.md R501). -/
def execFdivrp (_r : RegNum) (_s : State) : Host.Outcome State Fault Refusal :=
  .refused (.lx86 "FDIVRP")

/-- FDIVP fpureg: `refuse("LX86: FDIVP")` (46_x87_escape.md R503). -/
def execFdivp (_r : RegNum) (_s : State) : Host.Outcome State Fault Refusal :=
  .refused (.lx86 "FDIVP")

/-- FBLD mem80: `refuse("LX86: FBLD")` (46_x87_escape.md R504). -/
def execFbld (_m : MemEA) (_s : State) : Host.Outcome State Fault Refusal :=
  .refused (.lx86 "FBLD")

/-- FBSTP mem80: `refuse("LX86: FBSTP")` (46_x87_escape.md R508). -/
def execFbstp (_m : MemEA) (_s : State) : Host.Outcome State Fault Refusal :=
  .refused (.lx86 "FBSTP")

/-- FFREEP fpureg: `refuse("LX86: FFREEP")` (46_x87_escape.md R509). -/
def execFfreep (_r : RegNum) (_s : State) : Host.Outcome State Fault Refusal :=
  .refused (.lx86 "FFREEP")

/-- FUCOMIP ST, ST(i): `refuse("LX86: FUCOMIP")` (46_x87_escape.md R510). -/
def execFucomip (_r : RegNum) (_s : State) : Host.Outcome State Fault Refusal :=
  .refused (.lx86 "FUCOMIP")

/-- FCOMIP ST, ST(i): `refuse("LX86: FCOMIP")` (46_x87_escape.md R511). -/
def execFcomip (_r : RegNum) (_s : State) : Host.Outcome State Fault Refusal :=
  .refused (.lx86 "FCOMIP")

/-- FENI: `refuse("LX86: FENI")` (46_x87_escape.md R505). -/
def execFeni (_s : State) : Host.Outcome State Fault Refusal :=
  .refused (.lx86 "FENI")

/-- FDISI: `refuse("LX86: FDISI")` (46_x87_escape.md R506). -/
def execFdisi (_s : State) : Host.Outcome State Fault Refusal :=
  .refused (.lx86 "FDISI")

/-- FCLEX: `refuse("LX86: FCLEX")` (46_x87_escape.md R507). -/
def execFclex (_s : State) : Host.Outcome State Fault Refusal :=
  .refused (.lx86 "FCLEX")

end Sys2Proof.Machine
end

