-- ==== Sys2Proof/Machine/Dispatch.lean ====
section
/-! DEFINITION. The meaning of each instruction: one arm per constructor of `Instr`, one direct call per arm. -/
namespace Sys2Proof.Machine

/-- What an instruction does, with IP already at the next instruction (00_scope.md R16; 30_encoding.md R123). -/
def exec (i : Instr) (s : State) : Host.Outcome State Fault Refusal :=
  match i with
  | .addRmReg w rm r => Sys2Proof.Machine.execAddRmReg w rm r s
  | .addRegRm w r rm => Sys2Proof.Machine.execAddRegRm w r rm s
  | .addAcc imm => Sys2Proof.Machine.execAddAcc imm s
  | .addRmImm rm imm => Sys2Proof.Machine.execAddRmImm rm imm s
  | .addRmImm8 rm b => Sys2Proof.Machine.execAddRmImm8 rm b s
  | .orRmReg w rm r => Sys2Proof.Machine.execOrRmReg w rm r s
  | .orRegRm w r rm => Sys2Proof.Machine.execOrRegRm w r rm s
  | .orAcc imm => Sys2Proof.Machine.execOrAcc imm s
  | .orRmImm rm imm => Sys2Proof.Machine.execOrRmImm rm imm s
  | .adcRmReg w rm r => Sys2Proof.Machine.execAdcRmReg w rm r s
  | .adcRegRm w r rm => Sys2Proof.Machine.execAdcRegRm w r rm s
  | .adcAcc imm => Sys2Proof.Machine.execAdcAcc imm s
  | .adcRmImm rm imm => Sys2Proof.Machine.execAdcRmImm rm imm s
  | .adcRmImm8 rm b => Sys2Proof.Machine.execAdcRmImm8 rm b s
  | .sbbRmReg w rm r => Sys2Proof.Machine.execSbbRmReg w rm r s
  | .sbbRegRm w r rm => Sys2Proof.Machine.execSbbRegRm w r rm s
  | .sbbAcc imm => Sys2Proof.Machine.execSbbAcc imm s
  | .sbbRmImm rm imm => Sys2Proof.Machine.execSbbRmImm rm imm s
  | .sbbRmImm8 rm b => Sys2Proof.Machine.execSbbRmImm8 rm b s
  | .andRmReg w rm r => Sys2Proof.Machine.execAndRmReg w rm r s
  | .andRegRm w r rm => Sys2Proof.Machine.execAndRegRm w r rm s
  | .andAcc imm => Sys2Proof.Machine.execAndAcc imm s
  | .andRmImm rm imm => Sys2Proof.Machine.execAndRmImm rm imm s
  | .andRmImm8 rm b => Sys2Proof.Machine.execAndRmImm8 rm b s
  | .subRmReg w rm r => Sys2Proof.Machine.execSubRmReg w rm r s
  | .subRegRm w r rm => Sys2Proof.Machine.execSubRegRm w r rm s
  | .subAcc imm => Sys2Proof.Machine.execSubAcc imm s
  | .subRmImm rm imm => Sys2Proof.Machine.execSubRmImm rm imm s
  | .subRmImm8 rm b => Sys2Proof.Machine.execSubRmImm8 rm b s
  | .xorRmReg w rm r => Sys2Proof.Machine.execXorRmReg w rm r s
  | .xorRegRm w r rm => Sys2Proof.Machine.execXorRegRm w r rm s
  | .xorAcc imm => Sys2Proof.Machine.execXorAcc imm s
  | .xorRmImm rm imm => Sys2Proof.Machine.execXorRmImm rm imm s
  | .cmpRmReg w rm r => Sys2Proof.Machine.execCmpRmReg w rm r s
  | .cmpRegRm w r rm => Sys2Proof.Machine.execCmpRegRm w r rm s
  | .cmpAcc imm => Sys2Proof.Machine.execCmpAcc imm s
  | .cmpRmImm rm imm => Sys2Proof.Machine.execCmpRmImm rm imm s
  | .cmpRmImm8 rm b => Sys2Proof.Machine.execCmpRmImm8 rm b s
  | .pushEs => Sys2Proof.Machine.execPushEs s
  | .popEs => Sys2Proof.Machine.execPopEs s
  | .overrideEs => Sys2Proof.Machine.execOverrideEs s
  | .pushCs => Sys2Proof.Machine.execPushCs s
  | .overrideCs => Sys2Proof.Machine.execOverrideCs s
  | .pushSs => Sys2Proof.Machine.execPushSs s
  | .popSs => Sys2Proof.Machine.execPopSs s
  | .overrideSs => Sys2Proof.Machine.execOverrideSs s
  | .pushDs => Sys2Proof.Machine.execPushDs s
  | .popDs => Sys2Proof.Machine.execPopDs s
  | .overrideDs => Sys2Proof.Machine.execOverrideDs s
  | .daa => Sys2Proof.Machine.execDaa s
  | .das => Sys2Proof.Machine.execDas s
  | .aaa => Sys2Proof.Machine.execAaa s
  | .aas => Sys2Proof.Machine.execAas s
  | .incReg r => Sys2Proof.Machine.execIncReg r s
  | .decReg r => Sys2Proof.Machine.execDecReg r s
  | .pushReg r => Sys2Proof.Machine.execPushReg r s
  | .popReg r => Sys2Proof.Machine.execPopReg r s
  | .pusha => Sys2Proof.Machine.execPusha s
  | .popa => Sys2Proof.Machine.execPopa s
  | .bound r m => Sys2Proof.Machine.execBound r m s
  | .pushImm v => Sys2Proof.Machine.execPushImm v s
  | .pushImm8 b => Sys2Proof.Machine.execPushImm8 b s
  | .ins w => Sys2Proof.Machine.execIns w s
  | .outs w => Sys2Proof.Machine.execOuts w s
  | .jo b => Sys2Proof.Machine.execJo b s
  | .jno b => Sys2Proof.Machine.execJno b s
  | .jb b => Sys2Proof.Machine.execJb b s
  | .jnb b => Sys2Proof.Machine.execJnb b s
  | .jz b => Sys2Proof.Machine.execJz b s
  | .jnz b => Sys2Proof.Machine.execJnz b s
  | .jbe b => Sys2Proof.Machine.execJbe b s
  | .jnbe b => Sys2Proof.Machine.execJnbe b s
  | .js b => Sys2Proof.Machine.execJs b s
  | .jns b => Sys2Proof.Machine.execJns b s
  | .jp b => Sys2Proof.Machine.execJp b s
  | .jnp b => Sys2Proof.Machine.execJnp b s
  | .jl b => Sys2Proof.Machine.execJl b s
  | .jnl b => Sys2Proof.Machine.execJnl b s
  | .jle b => Sys2Proof.Machine.execJle b s
  | .jnle b => Sys2Proof.Machine.execJnle b s
  | .testRmReg w rm r => Sys2Proof.Machine.execTestRmReg w rm r s
  | .xchgRmReg w rm r => Sys2Proof.Machine.execXchgRmReg w rm r s
  | .movRmReg w rm r => Sys2Proof.Machine.execMovRmReg w rm r s
  | .movRegRm w r rm => Sys2Proof.Machine.execMovRegRm w r rm s
  | .movRmSreg rm sr => Sys2Proof.Machine.execMovRmSreg rm sr s
  | .lea r m => Sys2Proof.Machine.execLea r m s
  | .movSregRm sr rm => Sys2Proof.Machine.execMovSregRm sr rm s
  | .popRm rm => Sys2Proof.Machine.execPopRm rm s
  | .nop => Sys2Proof.Machine.execNop s
  | .xchgAx r => Sys2Proof.Machine.execXchgAx r s
  | .cbw => Sys2Proof.Machine.execCbw s
  | .cwd => Sys2Proof.Machine.execCwd s
  | .wait => Sys2Proof.Machine.execWait s
  | .pushf => Sys2Proof.Machine.execPushf s
  | .popf => Sys2Proof.Machine.execPopf s
  | .sahf => Sys2Proof.Machine.execSahf s
  | .lahf => Sys2Proof.Machine.execLahf s
  | .callFar off seg => Sys2Proof.Machine.execCallFar off seg s
  | .movAccMem w off => Sys2Proof.Machine.execMovAccMem w off s
  | .movMemAcc w off => Sys2Proof.Machine.execMovMemAcc w off s
  | .movs w => Sys2Proof.Machine.execMovs w s
  | .cmps w => Sys2Proof.Machine.execCmps w s
  | .stos w => Sys2Proof.Machine.execStos w s
  | .lods w => Sys2Proof.Machine.execLods w s
  | .scas w => Sys2Proof.Machine.execScas w s
  | .testAcc imm => Sys2Proof.Machine.execTestAcc imm s
  | .movRegImm r imm => Sys2Proof.Machine.execMovRegImm r imm s
  | .retImm v => Sys2Proof.Machine.execRetImm v s
  | .ret => Sys2Proof.Machine.execRet s
  | .les r m => Sys2Proof.Machine.execLes r m s
  | .lds r m => Sys2Proof.Machine.execLds r m s
  | .movRmImm rm imm => Sys2Proof.Machine.execMovRmImm rm imm s
  | .enter v b => Sys2Proof.Machine.execEnter v b s
  | .leave => Sys2Proof.Machine.execLeave s
  | .retfImm v => Sys2Proof.Machine.execRetfImm v s
  | .retf => Sys2Proof.Machine.execRetf s
  | .int3 => Sys2Proof.Machine.execInt3 s
  | .intN b => Sys2Proof.Machine.execIntN b s
  | .into => Sys2Proof.Machine.execInto s
  | .iret => Sys2Proof.Machine.execIret s
  | .rol w n rm => Sys2Proof.Machine.execRol w n rm s
  | .ror w n rm => Sys2Proof.Machine.execRor w n rm s
  | .rcl w n rm => Sys2Proof.Machine.execRcl w n rm s
  | .rcr w n rm => Sys2Proof.Machine.execRcr w n rm s
  | .shl w n rm => Sys2Proof.Machine.execShl w n rm s
  | .shr w n rm => Sys2Proof.Machine.execShr w n rm s
  | .sar w n rm => Sys2Proof.Machine.execSar w n rm s
  | .aam => Sys2Proof.Machine.execAam s
  | .aad => Sys2Proof.Machine.execAad s
  | .setalc => Sys2Proof.Machine.execSetalc s
  | .xlat => Sys2Proof.Machine.execXlat s
  | .esc t l rm => Sys2Proof.Machine.execEsc t l rm s
  | .loopne b => Sys2Proof.Machine.execLoopne b s
  | .loope b => Sys2Proof.Machine.execLoope b s
  | .loop b => Sys2Proof.Machine.execLoop b s
  | .jcxz b => Sys2Proof.Machine.execJcxz b s
  | .inImm w b => Sys2Proof.Machine.execInImm w b s
  | .outImm w b => Sys2Proof.Machine.execOutImm w b s
  | .callNear v => Sys2Proof.Machine.execCallNear v s
  | .jmpNear v => Sys2Proof.Machine.execJmpNear v s
  | .jmpFar off seg => Sys2Proof.Machine.execJmpFar off seg s
  | .jmpShort b => Sys2Proof.Machine.execJmpShort b s
  | .inDx w => Sys2Proof.Machine.execInDx w s
  | .outDx w => Sys2Proof.Machine.execOutDx w s
  | .lock => Sys2Proof.Machine.execLock s
  | .repne => Sys2Proof.Machine.execRepne s
  | .rep => Sys2Proof.Machine.execRep s
  | .hlt => Sys2Proof.Machine.execHlt s
  | .cmc => Sys2Proof.Machine.execCmc s
  | .testRmImm rm imm => Sys2Proof.Machine.execTestRmImm rm imm s
  | .notRm w rm => Sys2Proof.Machine.execNotRm w rm s
  | .neg w rm => Sys2Proof.Machine.execNeg w rm s
  | .mul w rm => Sys2Proof.Machine.execMul w rm s
  | .imul w rm => Sys2Proof.Machine.execImul w rm s
  | .div w rm => Sys2Proof.Machine.execDiv w rm s
  | .idiv w rm => Sys2Proof.Machine.execIdiv w rm s
  | .clc => Sys2Proof.Machine.execClc s
  | .stc => Sys2Proof.Machine.execStc s
  | .cli => Sys2Proof.Machine.execCli s
  | .sti => Sys2Proof.Machine.execSti s
  | .cld => Sys2Proof.Machine.execCld s
  | .std => Sys2Proof.Machine.execStd s
  | .incRm w rm => Sys2Proof.Machine.execIncRm w rm s
  | .decRm w rm => Sys2Proof.Machine.execDecRm w rm s
  | .callRm rm => Sys2Proof.Machine.execCallRm rm s
  | .callFarMem m => Sys2Proof.Machine.execCallFarMem m s
  | .jmpRm rm => Sys2Proof.Machine.execJmpRm rm s
  | .jmpFarMem m => Sys2Proof.Machine.execJmpFarMem m s
  | .pushRm rm => Sys2Proof.Machine.execPushRm rm s
  | .faddMem z m => Sys2Proof.Machine.execFaddMem z m s
  | .fcomMem z m => Sys2Proof.Machine.execFcomMem z m s
  | .fcompMem z m => Sys2Proof.Machine.execFcompMem z m s
  | .fdivMem z m => Sys2Proof.Machine.execFdivMem z m s
  | .fdivrMem z m => Sys2Proof.Machine.execFdivrMem z m s
  | .faddReg r => Sys2Proof.Machine.execFaddReg r s
  | .fcomReg r => Sys2Proof.Machine.execFcomReg r s
  | .fcompReg r => Sys2Proof.Machine.execFcompReg r s
  | .fdivReg r => Sys2Proof.Machine.execFdivReg r s
  | .fdivrReg r => Sys2Proof.Machine.execFdivrReg r s
  | .fchs => Sys2Proof.Machine.execFchs s
  | .fabs => Sys2Proof.Machine.execFabs s
  | .f2xm1 => Sys2Proof.Machine.execF2xm1 s
  | .fdecstp => Sys2Proof.Machine.execFdecstp s
  | .fcos => Sys2Proof.Machine.execFcos s
  | .fiaddMem z m => Sys2Proof.Machine.execFiaddMem z m s
  | .fcmovb r => Sys2Proof.Machine.execFcmovb r s
  | .fcmove r => Sys2Proof.Machine.execFcmove r s
  | .fcmovbe r => Sys2Proof.Machine.execFcmovbe r s
  | .fcmovu r => Sys2Proof.Machine.execFcmovu r s
  | .fcmovnb r => Sys2Proof.Machine.execFcmovnb r s
  | .fcmovne r => Sys2Proof.Machine.execFcmovne r s
  | .fcmovnbe r => Sys2Proof.Machine.execFcmovnbe r s
  | .fcmovnu r => Sys2Proof.Machine.execFcmovnu r s
  | .fsetpm => Sys2Proof.Machine.execFsetpm s
  | .fucomi r => Sys2Proof.Machine.execFucomi r s
  | .fcomi r => Sys2Proof.Machine.execFcomi r s
  | .faddRegSt0 r => Sys2Proof.Machine.execFaddRegSt0 r s
  | .fdivrRegSt0 r => Sys2Proof.Machine.execFdivrRegSt0 r s
  | .fdivRegSt0 r => Sys2Proof.Machine.execFdivRegSt0 r s
  | .ffree r => Sys2Proof.Machine.execFfree r s
  | .faddp r => Sys2Proof.Machine.execFaddp r s
  | .fcompp => Sys2Proof.Machine.execFcompp s
  | .fdivrp r => Sys2Proof.Machine.execFdivrp r s
  | .fdivp r => Sys2Proof.Machine.execFdivp r s
  | .fbld m => Sys2Proof.Machine.execFbld m s
  | .fbstp m => Sys2Proof.Machine.execFbstp m s
  | .ffreep r => Sys2Proof.Machine.execFfreep r s
  | .fucomip r => Sys2Proof.Machine.execFucomip r s
  | .fcomip r => Sys2Proof.Machine.execFcomip r s
  | .feni => Sys2Proof.Machine.execFeni s
  | .fdisi => Sys2Proof.Machine.execFdisi s
  | .fclex => Sys2Proof.Machine.execFclex s
  | .monitor => Sys2Proof.Machine.execMonitor s
  | .mwait => Sys2Proof.Machine.execMwait s
  | .vmmcall => Sys2Proof.Machine.execVmmcall s
  | .stgi => Sys2Proof.Machine.execStgi s
  | .clgi => Sys2Proof.Machine.execClgi s
  | .skinit => Sys2Proof.Machine.execSkinit s
  | .invlpga => Sys2Proof.Machine.execInvlpga s
  | .swapgs => Sys2Proof.Machine.execSwapgs s
  | .rdtscp => Sys2Proof.Machine.execRdtscp s
  | .syscall => Sys2Proof.Machine.execSyscall s
  | .clts => Sys2Proof.Machine.execClts s
  | .loadallSysret => Sys2Proof.Machine.execLoadallSysret s
  | .wbinvd => Sys2Proof.Machine.execWbinvd s
  | .ud2 => Sys2Proof.Machine.execUd2 s
  | .wrmsr => Sys2Proof.Machine.execWrmsr s
  | .rdtsc => Sys2Proof.Machine.execRdtsc s
  | .rdmsr => Sys2Proof.Machine.execRdmsr s
  | .rdpmc => Sys2Proof.Machine.execRdpmc s
  | .sysenter => Sys2Proof.Machine.execSysenter s
  | .sysexit => Sys2Proof.Machine.execSysexit s
  | .cmovo r rm => Sys2Proof.Machine.execCmovo r rm s
  | .cmovno r rm => Sys2Proof.Machine.execCmovno r rm s
  | .cmovb r rm => Sys2Proof.Machine.execCmovb r rm s
  | .cmovnb r rm => Sys2Proof.Machine.execCmovnb r rm s
  | .cmovz r rm => Sys2Proof.Machine.execCmovz r rm s
  | .cmovnz r rm => Sys2Proof.Machine.execCmovnz r rm s
  | .cmovbe r rm => Sys2Proof.Machine.execCmovbe r rm s
  | .cmovnbe r rm => Sys2Proof.Machine.execCmovnbe r rm s
  | .cmovs r rm => Sys2Proof.Machine.execCmovs r rm s
  | .cmovns r rm => Sys2Proof.Machine.execCmovns r rm s
  | .cmovp r rm => Sys2Proof.Machine.execCmovp r rm s
  | .cmovnp r rm => Sys2Proof.Machine.execCmovnp r rm s
  | .cmovl r rm => Sys2Proof.Machine.execCmovl r rm s
  | .cmovnl r rm => Sys2Proof.Machine.execCmovnl r rm s
  | .cmovle r rm => Sys2Proof.Machine.execCmovle r rm s
  | .cmovnle r rm => Sys2Proof.Machine.execCmovnle r rm s
  | .pushFs => Sys2Proof.Machine.execPushFs s
  | .popFs => Sys2Proof.Machine.execPopFs s
  | .cpuid => Sys2Proof.Machine.execCpuid s
  | .btRmReg r rm => Sys2Proof.Machine.execBtRmReg r rm s
  | .pushGs => Sys2Proof.Machine.execPushGs s
  | .popGs => Sys2Proof.Machine.execPopGs s
  | .rsm => Sys2Proof.Machine.execRsm s
  | .btsRmReg r rm => Sys2Proof.Machine.execBtsRmReg r rm s
  | .clflush m => Sys2Proof.Machine.execClflush m s
  | .lfence => Sys2Proof.Machine.execLfence s
  | .mfence => Sys2Proof.Machine.execMfence s
  | .sfence => Sys2Proof.Machine.execSfence s
  | .cmpxchgRm8 r rm => Sys2Proof.Machine.execCmpxchgRm8 r rm s
  | .cmpxchgRm16 r rm => Sys2Proof.Machine.execCmpxchgRm16 r rm s
  | .btrRmReg r rm => Sys2Proof.Machine.execBtrRmReg r rm s
  | .btRmImm rm b => Sys2Proof.Machine.execBtRmImm rm b s
  | .btsRmImm rm b => Sys2Proof.Machine.execBtsRmImm rm b s
  | .btrRmImm rm b => Sys2Proof.Machine.execBtrRmImm rm b s
  | .btcRmImm rm b => Sys2Proof.Machine.execBtcRmImm rm b s
  | .btcRmReg r rm => Sys2Proof.Machine.execBtcRmReg r rm s
  | .bsf r rm => Sys2Proof.Machine.execBsf r rm s
  | .bsr r rm => Sys2Proof.Machine.execBsr r rm s
  | .cmpxchg8b m => Sys2Proof.Machine.execCmpxchg8b m s
  | .bswap r => Sys2Proof.Machine.execBswap r s
  | .oio => Sys2Proof.Machine.execOio s
  | .arpl r rm => Sys2Proof.Machine.execArpl r rm s
  | .smiIcebp => Sys2Proof.Machine.execSmiIcebp s
  | .pushad => Sys2Proof.Machine.execPushad s
  | .popad => Sys2Proof.Machine.execPopad s
  | .insd => Sys2Proof.Machine.execInsd s
  | .outsd => Sys2Proof.Machine.execOutsd s
  | .cwde => Sys2Proof.Machine.execCwde s
  | .cdq => Sys2Proof.Machine.execCdq s
  | .pushfd => Sys2Proof.Machine.execPushfd s
  | .popfd => Sys2Proof.Machine.execPopfd s
  | .movsd => Sys2Proof.Machine.execMovsd s
  | .cmpsd => Sys2Proof.Machine.execCmpsd s
  | .stosd => Sys2Proof.Machine.execStosd s
  | .lodsd => Sys2Proof.Machine.execLodsd s
  | .scasd => Sys2Proof.Machine.execScasd s
  | .crc32 w r rm => Sys2Proof.Machine.execCrc32 w r rm s
  | .popcnt r rm => Sys2Proof.Machine.execPopcnt r rm s
  | .pause => Sys2Proof.Machine.execPause s
  | .femms => Sys2Proof.Machine.execFemms s
  | .cvtpi2ps r rm => Sys2Proof.Machine.execCvtpi2ps r rm s
  | .cvttps2pi r rm => Sys2Proof.Machine.execCvttps2pi r rm s
  | .cvtps2pi r rm => Sys2Proof.Machine.execCvtps2pi r rm s
  | .comiss r rm => Sys2Proof.Machine.execComiss r rm s
  | .andps r rm => Sys2Proof.Machine.execAndps r rm s
  | .andnps r rm => Sys2Proof.Machine.execAndnps r rm s
  | .addps r rm => Sys2Proof.Machine.execAddps r rm s
  | .cvtps2pd r rm => Sys2Proof.Machine.execCvtps2pd r rm s
  | .cvtdq2ps r rm => Sys2Proof.Machine.execCvtdq2ps r rm s
  | .divps r rm => Sys2Proof.Machine.execDivps r rm s
  | .emms => Sys2Proof.Machine.execEmms s
  | .cmpps r rm b => Sys2Proof.Machine.execCmpps r rm b s
  | .cvtpi2pd r rm => Sys2Proof.Machine.execCvtpi2pd r rm s
  | .cvttpd2pi r rm => Sys2Proof.Machine.execCvttpd2pi r rm s
  | .cvtpd2pi r rm => Sys2Proof.Machine.execCvtpd2pi r rm s
  | .comisd r rm => Sys2Proof.Machine.execComisd r rm s
  | .blendvps r rm => Sys2Proof.Machine.execBlendvps r rm s
  | .blendvpd r rm => Sys2Proof.Machine.execBlendvpd r rm s
  | .aesimc r rm => Sys2Proof.Machine.execAesimc r rm s
  | .aesenc r rm => Sys2Proof.Machine.execAesenc r rm s
  | .aesenclast r rm => Sys2Proof.Machine.execAesenclast r rm s
  | .aesdec r rm => Sys2Proof.Machine.execAesdec r rm s
  | .aesdeclast r rm => Sys2Proof.Machine.execAesdeclast r rm s
  | .blendps r rm b => Sys2Proof.Machine.execBlendps r rm b s
  | .blendpd r rm b => Sys2Proof.Machine.execBlendpd r rm b s
  | .dpps r rm b => Sys2Proof.Machine.execDpps r rm b s
  | .dppd r rm b => Sys2Proof.Machine.execDppd r rm b s
  | .aeskeygenassist r rm b => Sys2Proof.Machine.execAeskeygenassist r rm b s
  | .andpd r rm => Sys2Proof.Machine.execAndpd r rm s
  | .andnpd r rm => Sys2Proof.Machine.execAndnpd r rm s
  | .addpd r rm => Sys2Proof.Machine.execAddpd r rm s
  | .cvtpd2ps r rm => Sys2Proof.Machine.execCvtpd2ps r rm s
  | .cvtps2dq r rm => Sys2Proof.Machine.execCvtps2dq r rm s
  | .divpd r rm => Sys2Proof.Machine.execDivpd r rm s
  | .cmppd r rm b => Sys2Proof.Machine.execCmppd r rm b s
  | .addsubpd r rm => Sys2Proof.Machine.execAddsubpd r rm s
  | .cvttpd2dq r rm => Sys2Proof.Machine.execCvttpd2dq r rm s
  | .cvtsi2sd r rm => Sys2Proof.Machine.execCvtsi2sd r rm s
  | .cvttsd2si r rm => Sys2Proof.Machine.execCvttsd2si r rm s
  | .cvtsd2si r rm => Sys2Proof.Machine.execCvtsd2si r rm s
  | .addsd r rm => Sys2Proof.Machine.execAddsd r rm s
  | .cvtsd2ss r rm => Sys2Proof.Machine.execCvtsd2ss r rm s
  | .divsd r rm => Sys2Proof.Machine.execDivsd r rm s
  | .cmpsdScalar r rm b => Sys2Proof.Machine.execCmpsdScalar r rm b s
  | .addsubps r rm => Sys2Proof.Machine.execAddsubps r rm s
  | .cvtpd2dq r rm => Sys2Proof.Machine.execCvtpd2dq r rm s
  | .cvtsi2ss r rm => Sys2Proof.Machine.execCvtsi2ss r rm s
  | .cvttss2si r rm => Sys2Proof.Machine.execCvttss2si r rm s
  | .cvtss2si r rm => Sys2Proof.Machine.execCvtss2si r rm s
  | .addss r rm => Sys2Proof.Machine.execAddss r rm s
  | .cvtss2sd r rm => Sys2Proof.Machine.execCvtss2sd r rm s
  | .cvttps2dq r rm => Sys2Proof.Machine.execCvttps2dq r rm s
  | .divss r rm => Sys2Proof.Machine.execDivss r rm s
  | .cmpss r rm b => Sys2Proof.Machine.execCmpss r rm b s
  | .cvtdq2pd r rm => Sys2Proof.Machine.execCvtdq2pd r rm s
  | .overrideFs => Sys2Proof.Machine.execOverrideFs s
  | .overrideGs => Sys2Proof.Machine.execOverrideGs s
  | .operandSize => Sys2Proof.Machine.execOperandSize s

end Sys2Proof.Machine
end

