-- ==== Sys2Proof/Machine/Fetch.lean ====
section
/-! DEFINITION. Fetching and decoding the instruction at CS:IP (30_encoding.md R120 to R124; 20_memory.md R104), the check on
repeat prefixes (43_string.md R348), and placing an instruction where the next step fetches. -/
namespace Sys2Proof.Machine

/-- The physical address of the next instruction byte: always CS:IP (30_encoding.md R121). -/
def State.codeAddr (s : State) : Nat := phys s.segs.cs s.ip

/-- What a fetch at `x` sees: what the address held before a store that may not be seen, or what it holds now, by free values
(20_memory.md R104; entry 16). -/
def pickFetched (x : Nat) (current : Option Byte) : List (Nat × Option Byte) → State → Option Byte × State
  | [], s => (current, s)
  | (a, old) :: rest, s =>
    if a = x then
      if s.drawn.getLsbD 0 then (old, s.drew) else pickFetched x current rest s.drew
    else pickFetched x current rest s

/-- `Fetch8` (30_encoding.md R121): the byte at CS:IP, then IP + 1 modulo 2^16. A byte of RAM or ROM that nothing has written
holds no value, nor does one whose first store is not seen (70_reset_and_hazards.md R761, R773; entry 16). SEG_WRAP plays no
part (DEDUCED, entry 23). -/
def fetchByte (s : State) : Except Stop (Byte × State) :=
  let x := s.codeAddr
  match kindAt s.cfg.memMap x with
  | .ram | .rom =>
    match pickFetched x (Memory.lookup s.mem x) s.stale s with
    | (some b, t) => .ok (b, t.setIp (s.ip + 1))
    | (none, _) => .error (.fault (.noCode x))
  | .absent | .device =>
    match readByte x s with
    | .ok (b, t) => .ok (b, t.setIp (s.ip + 1))
    | .error e => .error e

/-- Up to `n` instruction bytes from CS:IP, each with the state after its fetch; it ends where a byte holds no value. -/
def codeWindow : Nat → State → List (Byte × State)
  | 0, _ => []
  | n + 1, s =>
    match fetchByte s with
    | .error _ => []
    | .ok (b, t) => (b, t) :: codeWindow n t

/-- The state after the last of the bytes of a window, or the state given for none. -/
def stateAfter (s : State) (w : List (Byte × State)) : State :=
  match w.getLast? with
  | some (_, t) => t
  | none => s

/-- Fetch and decode one instruction, or one prefix byte, at CS:IP: the state has IP after it and nothing else of what lies
behind it was read (30_encoding.md R123; 20_memory.md R91). -/
def fetch (s : State) : Except Stop (Instr × State) :=
  let w := codeWindow maxLength s
  match decode s.cfg.level (w.map Prod.fst) with
  | .ok (i, rest) => .ok (i, stateAfter s (w.take (w.length - rest.length)))
  | .error .truncated => .error (.fault (.noCode (stateAfter s w).codeAddr))
  | .error e => .error (.refused (.encoding e))

/-- The prefix bytes of 30_encoding.md R140. -/
def isPrefix : Instr → Bool
  | .overrideEs | .overrideCs | .overrideSs | .overrideDs | .lock | .repne | .rep => true
  | _ => false

/-- The string instructions of 43_string.md R331 to R341. -/
def isString : Instr → Bool
  | .movs _ | .cmps _ | .scas _ | .lods _ | .stos _ | .ins _ | .outs _ => true
  | _ => false

/-- A repeat prefix acts on string instructions only (43_string.md R348 (a); the order is DEDUCED, entry 22). -/
def checkPrefixes (i : Instr) (s : State) : Except Stop Unit :=
  if s.pfx.rep.isSome && !isPrefix i && !isString i then .error (.refused .repeatOnNonString) else .ok ()

/-! ### Placing an instruction -/

/-- Put bytes in memory from CS:IP on, IP wrapping inside the segment (10_state.md R38). -/
def placeCode (cs : Word) : Word → List Byte → Memory → Memory
  | _, [], m => m
  | off, b :: bs, m => placeCode cs (off + 1) bs (Memory.write m (phys cs off) b)

/-- The code addresses among `n` from `off` on that the memory map does not call RAM, as RAM ranges of one byte. -/
def ramRanges (map : List Region) (cs off : Word) (n : Nat) : List Region :=
  ((List.range n).map fun j => phys cs (off + BitVec.ofNat 16 j)).filterMap fun x =>
    if kindAt map x = .ram then none else some { base := x, size := 1, kind := .ram }

/-- The least level at which the bytes decode to the instruction that the opcode table's level gives (entry 15). -/
def levelFor (bs : List Byte) : Level :=
  match decode .lx86 bs with
  | .error _ => .lx86
  | .ok (i, _) =>
    let same (lvl : Level) : Bool :=
      match decode lvl bs with
      | .ok (j, _) => j == i
      | .error _ => false
    if same .l8086 then .l8086 else if same .l186 then .l186 else .lx86

/-- The higher of two levels. -/
def maxLevel (a b : Level) : Level := if a.includes b then a else b

/-- The state with bytes placed at CS:IP and everything cleared that would keep the next step from fetching them: a halt, a
wait, a repetition, prefix bytes read, a boundary due, bytes fetched ahead, a request on the next sample (entry 15). -/
def placeInstr (s : State) (bs : List Byte) : State :=
  { s with
    mem := placeCode s.segs.cs s.ip bs s.mem
    cfg := { s.cfg with
      level := maxLevel s.cfg.level (levelFor bs)
      memMap := ramRanges s.cfg.memMap s.segs.cs s.ip bs.length ++ s.cfg.memMap }
    halted := false
    waiting := false
    repeating := none
    pfx := .none
    boundary := none
    stale := []
    inputs := .quiet :: s.inputs }

end Sys2Proof.Machine
end

