-- ==== Sys2Proof/Machine/Cycle.lean ====
section
/-! DEFINITION. One step of the machine: sampling the lines, reset, the instruction boundary, the next instruction
(60_exceptions.md R706, R720 to R725; 70_reset_and_hazards.md R760). -/
namespace Sys2Proof.Machine

/-- Take the next sample of the lines; an NMI transition is latched (60_exceptions.md R720, R722; entry 6). -/
def State.sample (s : State) : State :=
  match s.inputs with
  | [] => s.setLines .quiet
  | l :: rest => ((s.setInputs rest).setLines l).setNmiLatched (s.nmiLatched || l.nmi)

/-- General registers that hold free values, from draw number `d` on (entry 3). -/
def freeRegs (d : Nat) : Regs where
  ax := Config.freeValue d
  cx := Config.freeValue (d + 1)
  dx := Config.freeValue (d + 2)
  bx := Config.freeValue (d + 3)
  sp := Config.freeValue (d + 4)
  bp := Config.freeValue (d + 5)
  si := Config.freeValue (d + 6)
  di := Config.freeValue (d + 7)

/-- RESET in a run (70_reset_and_hazards.md R760, R762): memory and the platform keep what they hold, the general registers
hold free values (entry 3), everything else is as after reset. -/
def resetCpu (s : State) : State :=
  { State.reset with
    regs := freeRegs s.draws
    draws := s.draws + 8
    lines := s.lines
    inputs := s.inputs
    answers := s.answers
    events := s.events
    cfg := s.cfg
    mem := s.mem }

/-- The address that an accepted interrupt saves (60_exceptions.md R720): the start of a repeated string instruction or of a
WAIT in progress, else IP. -/
def State.resumeIp (s : State) : Word := if s.repeating.isSome || s.waiting then s.start else s.ip

/-- Accept an interrupt at a boundary (60_exceptions.md R720 steps 2 to 4): its sequence; the instruction in progress, if any, is
left. `after` is the boundary still due before the handler's first instruction, with the TF of before (entry 11). -/
def acceptInterrupt (n : Byte) (after : Option Bool) : Op Unit := do
  interrupt n (← get).resumeIp
  Op.update fun s => ((s.setPfx .none).setRepeating none).setBoundary after

/-- Accept a latched NMI (60_exceptions.md R720 step 2, R722), and the single-step trap of the same boundary right after its
sequence if `tf`. -/
def acceptNmi (tf : Bool) : Op Unit := do
  acceptInterrupt 2 none
  if tf then acceptInterrupt 1 none

/-- What follows an instruction that has gone on (60_exceptions.md R706, R720): none for a prefix byte; else the boundary is
due with the TF of before, and the prefix state is discarded unless elements of a repeated string instruction remain. -/
def settle (i : Instr) (tfBefore : Bool) (s : State) : State :=
  if isPrefix i then s
  else if s.repeating.isSome then s.setBoundary (some tfBefore)
  else (s.setPfx .none).setBoundary (some tfBefore)

/-- Run an instruction and settle it. -/
def runInstr (i : Instr) (s : State) : Host.Outcome State Fault Refusal :=
  match exec i s with
  | .next t => .next (settle i s.flags.tf t)
  | .fault f => .fault f
  | .refused r => .refused r

/-- Fetch the next instruction or prefix byte at CS:IP and run it (30_encoding.md R123). `State.start` is set before the first
byte of an instruction. -/
def fetchAndRun (s : State) : Host.Outcome State Fault Refusal :=
  let s := if s.pfx.active then s else s.setStart s.ip
  match fetch s with
  | .error (.fault f) => .fault f
  | .error (.refused r) => .refused r
  | .ok (i, t) =>
    match checkPrefixes i t with
    | .error (.fault f) => .fault f
    | .error (.refused r) => .refused r
    | .ok () => runInstr i t

/-- Step 5 of 60_exceptions.md R720: stay halted, keep waiting or end the wait, go on with a repeated string instruction, or
execute the next instruction. When TEST ends a wait, the boundary after the WAIT is evaluated on the next sample before the next
instruction runs (DESIGN CHOICE, entry 35). -/
def execute (s : State) : Host.Outcome State Fault Refusal :=
  if s.halted then .next (s.setBoundary (some false))
  else if s.waiting then
    .next ((if s.lines.test then s.setWaiting false else s).setBoundary (some false))
  else
    match s.repeating with
    | some i => runInstr i s
    | none => fetchAndRun s

/-- The boundary of 60_exceptions.md R720, steps 1 to 5, for an instruction that began with TF = `tf` (a WAIT among them:
DEDUCED, entry 21). A maskable request leaves the boundary due, with the same `tf`: an NMI that arrives during its sequence is
taken next, and the single-step trap last (R720, R725 (c); entry 11). -/
def atBoundary (tf : Bool) (s : State) : Host.Outcome State Fault Refusal :=
  if s.intInhibit then execute (s.setIntInhibit false)
  else if s.nmiLatched then runOp (acceptNmi tf) (s.setNmiLatched false)
  else if s.lines.intr && s.flags.ifl then runOp (acceptInterrupt s.lines.intrType (some tf)) s
  else if tf then runOp (acceptInterrupt 1 none) s
  else execute s

/-- One step: a sample of the lines, then reset, the boundary if one is due, or the next instruction (60_exceptions.md R720; RESET
once a step: DEDUCED, entry 26). -/
def cycle (s : State) : Host.Outcome State Fault Refusal :=
  let s := s.sample
  if s.lines.reset then .next (resetCpu s)
  else
    match s.boundary with
    | some tf => atBoundary tf (s.setBoundary none)
    | none => execute s

end Sys2Proof.Machine
end

