-- ==== Sys2Proof/Machine/Step.lean ====
section
/-! DEFINITION. The step of the machine, and the placing of an instruction of the opcode table where it fetches. -/
namespace Sys2Proof.Machine

/-- One step of the machine: `cycle` of Machine/Cycle.lean. -/
def step (s : State) : Host.Outcome State Fault Refusal := cycle s

/-- The state with the instruction whose bits are `w` (the `nbits` that the opcode table gives it, every bit above them 0)
stored where `step` fetches: at CS:IP, at the level that gives the row (entry 15). -/
def State.withFetchWord (s : State) (nbits w : Nat) : State := placeInstr s (tableBytes nbits w)

end Sys2Proof.Machine
end

