-- ==== Sys2Proof/Safety.lean ====
section
/-! DEFINITION. What counts as a legal state and as the end of a run, in the terms that the statements use. -/
namespace Sys2Proof.Machine

/-- The legal states. Memory is in canonical form. At most one of HLT's and WAIT's holds is on (60_exceptions.md R754). A
repetition is one of a string instruction, under a repeat prefix, and with elements left (43_string.md R345). With
PREFETCH_DEPTH = 0 no byte is fetched ahead (20_memory.md R104). A repeat or override is part of a prefix state that is active
(30_encoding.md R140). -/
structure State.Legal (s : State) : Prop where
  mem_wf : Memory.wf s.mem = true
  one_hold : ¬ (s.halted = true ∧ s.waiting = true)
  repeats : ∀ i, s.repeating = some i → isString i = true ∧ s.pfx.rep.isSome = true ∧ s.regs.cx ≠ 0
  coherent : s.cfg.prefetchDepth = 0 → s.stale = []
  prefixes : s.pfx.active = false → s.pfx = .none

/-- The byte that memory holds at a physical address, if it holds one. -/
def State.byteAt (s : State) (x : Nat) : Option Byte := Memory.lookup s.mem x

/-- The physical addresses of an access at `seg:off` (20_memory.md R86). -/
def State.accessBytes (s : State) (w : Width) (seg off : Word) : List Nat :=
  match w with
  | .byte => [byteAddr s.cfg.segWrap seg off 0]
  | .word => [byteAddr s.cfg.segWrap seg off 0, byteAddr s.cfg.segWrap seg off 1]

/-- The physical addresses of an r/m operand's place: none for a register. -/
def State.locBytes (s : State) (w : Width) : Loc → List Nat
  | .reg _ => []
  | .mem seg off => s.accessBytes w seg off

/-- The physical addresses of the next `k` words pushed (20_memory.md R93). -/
def State.pushBytes (s : State) (k : Nat) : List Nat :=
  (List.range k).flatMap fun j => s.accessBytes .word s.segs.ss (s.regs.sp - BitVec.ofNat 16 (2 * (j + 1)))

/-- Addresses that the memory map calls RAM. -/
def State.AllRam (s : State) (xs : List Nat) : Prop := ∀ x ∈ xs, kindAt s.cfg.memMap x = .ram

/-- Addresses of RAM or ROM that hold a value each. -/
def State.AllHold (s : State) (xs : List Nat) : Prop :=
  ∀ x ∈ xs, (kindAt s.cfg.memMap x = .ram ∨ kindAt s.cfg.memMap x = .rom) ∧ (s.byteAt x).isSome = true

/-- The hidden state and the inputs are the same (10_state.md R57): everything but registers, IP, flags, memory, the bytes
fetched ahead, the platform's answers, the trace and the count of draws. -/
structure SameHidden (s t : State) : Prop where
  intInhibit : t.intInhibit = s.intInhibit
  halted : t.halted = s.halted
  waiting : t.waiting = s.waiting
  pfx : t.pfx = s.pfx
  start : t.start = s.start
  repeating : t.repeating = s.repeating
  boundary : t.boundary = s.boundary
  nmiLatched : t.nmiLatched = s.nmiLatched
  lines : t.lines = s.lines
  inputs : t.inputs = s.inputs
  cfg : t.cfg = s.cfg

/-- The control flags TF, IF and DF are the same. -/
def SameControl (f g : Flags) : Prop := g.tf = f.tf ∧ g.ifl = f.ifl ∧ g.df = f.df

/-- A word of RAM or ROM (20_memory.md R80, R86). -/
def State.HoldsWord (s : State) (seg off v : Word) : Prop :=
  s.AllHold (s.accessBytes .word seg off) ∧
    s.byteAt (byteAddr s.cfg.segWrap seg off 0) = some (v.extractLsb' 0 8) ∧
    s.byteAt (byteAddr s.cfg.segWrap seg off 1) = some (v.extractLsb' 8 8)

/-! ### What each instruction may write, as the rules of files 40 to 45 say -/

/-- The word register that holds register `r` of a width (10_state.md R31). -/
def homeReg (w : Width) (r : RegNum) : RegNum :=
  match w with
  | .byte => (byteHome r).1
  | .word => r

/-- The word register of an r/m destination: none in memory. -/
def rmRegs (w : Width) : RM → List RegNum
  | .reg r => [homeReg w r]
  | .mem _ => []

/-- The size of an immediate. -/
def immWidth : Imm → Width
  | .ib _ => .byte
  | .iw _ => .word

/-- The general registers that an instruction may write: its destinations, and those its rule also updates (SP, CX, SI, DI). -/
def destRegs : Instr → List RegNum
  | .addRmReg w rm _ | .orRmReg w rm _ | .adcRmReg w rm _ | .sbbRmReg w rm _ | .andRmReg w rm _ | .subRmReg w rm _
  | .xorRmReg w rm _ | .movRmReg w rm _ => rmRegs w rm
  | .addRegRm w r _ | .orRegRm w r _ | .adcRegRm w r _ | .sbbRegRm w r _ | .andRegRm w r _ | .subRegRm w r _
  | .xorRegRm w r _ | .movRegRm w r _ => [homeReg w r]
  | .addAcc _ | .orAcc _ | .adcAcc _ | .sbbAcc _ | .andAcc _ | .subAcc _ | .xorAcc _ => [.ax]
  | .addRmImm rm i | .orRmImm rm i | .adcRmImm rm i | .sbbRmImm rm i | .andRmImm rm i | .subRmImm rm i
  | .xorRmImm rm i | .movRmImm rm i => rmRegs (immWidth i) rm
  | .addRmImm8 rm _ | .adcRmImm8 rm _ | .sbbRmImm8 rm _ | .andRmImm8 rm _ | .subRmImm8 rm _ | .movRmSreg rm _ =>
    rmRegs .word rm
  | .incRm w rm | .decRm w rm | .neg w rm | .notRm w rm => rmRegs w rm
  | .rol w _ rm | .ror w _ rm | .rcl w _ rm | .rcr w _ rm | .shl w _ rm | .shr w _ rm | .sar w _ rm => rmRegs w rm
  | .incReg r | .decReg r => [r]
  | .mul .byte _ | .imul .byte _ => [.ax]
  | .mul .word _ | .imul .word _ => [.ax, .dx]
  | .div .byte _ | .idiv .byte _ => [.ax, .sp]
  | .div .word _ | .idiv .word _ => [.ax, .dx, .sp]
  | .aaa | .aas | .daa | .das | .aam | .aad | .cbw | .xlat | .lahf | .setalc | .movAccMem _ _ | .inImm _ _ | .inDx _ => [.ax]
  | .cwd => [.dx]
  | .movRegImm r i => [homeReg (immWidth i) r]
  | .lea r _ | .lds r _ | .les r _ => [r]
  | .xchgRmReg w rm r => homeReg w r :: rmRegs w rm
  | .xchgAx r => [.ax, r]
  | .pushEs | .pushCs | .pushSs | .pushDs | .pushReg _ | .pushRm _ | .pushImm _ | .pushImm8 _ | .pusha | .pushf => [.sp]
  | .popReg r => [r, .sp]
  | .popRm rm => .sp :: rmRegs .word rm
  | .popEs | .popSs | .popDs | .popf => [.sp]
  | .popa => [.ax, .cx, .dx, .bx, .sp, .bp, .si, .di]
  | .movs _ | .cmps _ => [.si, .di, .cx]
  | .scas _ | .stos _ | .ins _ => [.di, .cx]
  | .lods _ => [.ax, .si, .cx]
  | .outs _ => [.si, .cx]
  | .callNear _ | .callRm _ | .callFar _ _ | .callFarMem _ | .ret | .retImm _ | .retf | .retfImm _ => [.sp]
  | .intN _ | .int3 | .into | .iret | .bound _ _ => [.sp]
  | .enter _ _ | .leave => [.sp, .bp]
  | .loop _ | .loope _ | .loopne _ => [.cx]
  | _ => []

/-- The segment registers that an instruction may write (10_state.md R35). -/
def destSegs : Instr → List SReg
  | .movSregRm n _ => [n]
  | .popEs | .les _ _ => [.es]
  | .popSs => [.ss]
  | .popDs | .lds _ _ => [.ds]
  | .callFar _ _ | .callFarMem _ | .jmpFar _ _ | .jmpFarMem _ | .retf | .retfImm _ | .intN _ | .int3 | .into | .iret
  | .bound _ _ | .div _ _ | .idiv _ _ => [.cs]
  | _ => []

/-- The physical addresses of the bytes that an instruction may store to, computed from the state before it by the functions
that its meaning uses: an r/m destination, the words pushed, a string destination, a direct address. -/
def storedBytes (s : State) : Instr → List Nat
  | .addRmReg w rm _ | .orRmReg w rm _ | .adcRmReg w rm _ | .sbbRmReg w rm _ | .andRmReg w rm _ | .subRmReg w rm _
  | .xorRmReg w rm _ | .movRmReg w rm _ | .xchgRmReg w rm _ => s.locBytes w (s.locate rm)
  | .addRmImm rm i | .orRmImm rm i | .adcRmImm rm i | .sbbRmImm rm i | .andRmImm rm i | .subRmImm rm i
  | .xorRmImm rm i | .movRmImm rm i => s.locBytes (immWidth i) (s.locate rm)
  | .addRmImm8 rm _ | .adcRmImm8 rm _ | .sbbRmImm8 rm _ | .andRmImm8 rm _ | .subRmImm8 rm _ | .movRmSreg rm _
  | .popRm rm => s.locBytes .word (s.locate rm)
  | .incRm w rm | .decRm w rm | .neg w rm | .notRm w rm => s.locBytes w (s.locate rm)
  | .rol w _ rm | .ror w _ rm | .rcl w _ rm | .rcr w _ rm | .shl w _ rm | .shr w _ rm | .sar w _ rm =>
    s.locBytes w (s.locate rm)
  | .movMemAcc w off => s.accessBytes w (s.segOr .ds) off
  | .pushEs | .pushCs | .pushSs | .pushDs | .pushReg _ | .pushRm _ | .pushImm _ | .pushImm8 _ | .pushf | .callNear _
  | .callRm _ => s.pushBytes 1
  | .callFar _ _ | .callFarMem _ => s.pushBytes 2
  | .intN _ | .int3 | .into | .bound _ _ | .div _ _ | .idiv _ _ => s.pushBytes 3
  | .pusha => s.pushBytes 8
  | .enter _ b => s.pushBytes (b.toNat % 32 + 1)
  | .movs w | .stos w | .ins w => s.accessBytes w s.segs.es s.regs.di
  | _ => []

/-- The bits of FLAGS that an instruction may write: every column of the table of 10_state.md R44 that is not "-". -/
def flagMask : Instr → Word
  | .addRmReg .. | .addRegRm .. | .addAcc _ | .addRmImm .. | .addRmImm8 .. | .adcRmReg .. | .adcRegRm .. | .adcAcc _
  | .adcRmImm .. | .adcRmImm8 .. | .subRmReg .. | .subRegRm .. | .subAcc _ | .subRmImm .. | .subRmImm8 .. | .sbbRmReg ..
  | .sbbRegRm .. | .sbbAcc _ | .sbbRmImm .. | .sbbRmImm8 .. | .cmpRmReg .. | .cmpRegRm .. | .cmpAcc _ | .cmpRmImm ..
  | .cmpRmImm8 .. | .neg .. | .cmps _ | .scas _ => 0x08D5
  | .incRm .. | .incReg _ | .decRm .. | .decReg _ => 0x08D4
  | .andRmReg .. | .andRegRm .. | .andAcc _ | .andRmImm .. | .andRmImm8 .. | .orRmReg .. | .orRegRm .. | .orAcc _
  | .orRmImm .. | .xorRmReg .. | .xorRegRm .. | .xorAcc _ | .xorRmImm .. | .testRmReg .. | .testAcc _ | .testRmImm .. => 0x08D5
  | .mul .. | .imul .. | .aaa | .aas | .daa | .das | .aam | .aad | .shl .. | .shr .. | .sar .. => 0x08D5
  | .div .. | .idiv .. => 0x0BD5
  | .rol .. | .ror .. | .rcl .. | .rcr .. => 0x0801
  | .clc | .stc | .cmc => 0x0001
  | .cld | .std => 0x0400
  | .cli | .sti => 0x0200
  | .sahf => 0x00D5
  | .popf | .iret => 0x0FD5
  | .intN _ | .int3 | .into | .bound .. => 0x0300
  | _ => 0

/-- The instructions whose rule writes hidden state (10_state.md R57): the holds, the shadow, the prefix state, a repetition,
and the interrupt sequences, which end a hold. -/
def touchesHidden : Instr → Bool
  | .hlt | .wait | .sti | .movSregRm .. | .popEs | .popSs | .popDs => true
  | .overrideEs | .overrideCs | .overrideSs | .overrideDs | .lock | .rep | .repne => true
  | .movs _ | .cmps _ | .scas _ | .lods _ | .stos _ | .ins _ | .outs _ => true
  | .intN _ | .int3 | .into | .bound .. | .div .. | .idiv .. => true
  | _ => false

/-- The instructions that may leave IP elsewhere than after themselves (10_state.md R38): the control transfers of file 44, and
DIV and IDIV, which may raise type 0. -/
def transfers : Instr → Bool
  | .jmpShort _ | .jmpNear _ | .jmpFar _ _ | .jmpRm _ | .jmpFarMem _ => true
  | .callNear _ | .callRm _ | .callFar _ _ | .callFarMem _ | .ret | .retImm _ | .retf | .retfImm _ => true
  | .jo _ | .jno _ | .jb _ | .jnb _ | .jz _ | .jnz _ | .jbe _ | .jnbe _ | .js _ | .jns _ | .jp _ | .jnp _ | .jl _ | .jnl _
  | .jle _ | .jnle _ | .loop _ | .loope _ | .loopne _ | .jcxz _ => true
  | .intN _ | .int3 | .into | .iret | .bound _ _ | .div _ _ | .idiv _ _ => true
  | _ => false

/-- The physical addresses of `k` words popped (40_data_transfer.md R214). -/
def State.popBytes (s : State) (k : Nat) : List Nat :=
  (List.range k).flatMap fun j => s.accessBytes .word s.segs.ss (s.regs.sp + BitVec.ofNat 16 (2 * j))

/-- The physical addresses of a pair of words in memory (40_data_transfer.md R229). -/
def State.pairBytes (s : State) (m : MemEA) : List Nat :=
  s.accessBytes .word (s.eaSeg m) (s.eaOff m) ++ s.accessBytes .word (s.eaSeg m) (s.eaOff m + 2)

/-- The physical addresses of the vector of a type (60_exceptions.md R710). -/
def State.vectorBytes (s : State) (n : Byte) : List Nat :=
  s.accessBytes .word 0 (n.setWidth 16 * 4) ++ s.accessBytes .word 0 (n.setWidth 16 * 4 + 2)

/-- The words that ENTER copies (44_control_transfer.md R415): those at SS:BP-2, SS:BP-4 and so on. -/
def State.frameBytes (s : State) (level : Nat) : List Nat :=
  (List.range (level - 1)).flatMap fun j => s.accessBytes .word s.segs.ss (s.regs.bp - BitVec.ofNat 16 (2 * (j + 1)))

/-- The physical addresses of the bytes that an instruction may read as data, computed from the state before it: its r/m source,
the words popped, the string source and destination, a direct address, the vector of an interrupt that it may take. -/
def loadedBytes (s : State) : Instr → List Nat
  | .addRmReg w rm _ | .orRmReg w rm _ | .adcRmReg w rm _ | .sbbRmReg w rm _ | .andRmReg w rm _ | .subRmReg w rm _
  | .xorRmReg w rm _ | .cmpRmReg w rm _ | .testRmReg w rm _ | .xchgRmReg w rm _ => s.locBytes w (s.locate rm)
  | .addRegRm w _ rm | .orRegRm w _ rm | .adcRegRm w _ rm | .sbbRegRm w _ rm | .andRegRm w _ rm | .subRegRm w _ rm
  | .xorRegRm w _ rm | .cmpRegRm w _ rm | .movRegRm w _ rm => s.locBytes w (s.locate rm)
  | .addRmImm rm i | .orRmImm rm i | .adcRmImm rm i | .sbbRmImm rm i | .andRmImm rm i | .subRmImm rm i
  | .xorRmImm rm i | .cmpRmImm rm i | .testRmImm rm i => s.locBytes (immWidth i) (s.locate rm)
  | .addRmImm8 rm _ | .adcRmImm8 rm _ | .sbbRmImm8 rm _ | .andRmImm8 rm _ | .subRmImm8 rm _ | .cmpRmImm8 rm _
  | .movSregRm _ rm | .pushRm rm | .callRm rm | .jmpRm rm | .esc _ _ rm => s.locBytes .word (s.locate rm)
  | .incRm w rm | .decRm w rm | .neg w rm | .notRm w rm | .mul w rm | .imul w rm => s.locBytes w (s.locate rm)
  | .rol w _ rm | .ror w _ rm | .rcl w _ rm | .rcr w _ rm | .shl w _ rm | .shr w _ rm | .sar w _ rm =>
    s.locBytes w (s.locate rm)
  | .div w rm | .idiv w rm => s.locBytes w (s.locate rm) ++ s.vectorBytes 0
  | .movAccMem w off => s.accessBytes w (s.segOr .ds) off
  | .xlat => s.accessBytes .byte (s.segOr .ds) (s.regs.bx + (s.reg8 .al).setWidth 16)
  | .lds _ m | .les _ m | .callFarMem m | .jmpFarMem m => s.pairBytes m
  | .bound _ m => s.pairBytes m ++ s.vectorBytes 5
  | .popReg _ | .popRm _ | .popEs | .popSs | .popDs | .popf | .ret | .retImm _ => s.popBytes 1
  | .retf | .retfImm _ => s.popBytes 2
  | .iret => s.popBytes 3
  | .popa => s.popBytes 8
  | .intN n => s.vectorBytes n
  | .int3 => s.vectorBytes 3
  | .into => s.vectorBytes 4
  | .enter _ b => s.frameBytes (b.toNat % 32)
  | .leave => s.accessBytes .word s.segs.ss s.regs.bp
  | .movs w | .lods w | .outs w => s.accessBytes w (s.segOr .ds) s.regs.si
  | .cmps w => s.accessBytes w (s.segOr .ds) s.regs.si ++ s.accessBytes w s.segs.es s.regs.di
  | .scas w => s.accessBytes w s.segs.es s.regs.di
  | _ => []

/-- The instructions that access an I/O port (20_memory.md R95). -/
def usesPort : Instr → Bool
  | .inImm .. | .inDx _ | .outImm .. | .outDx _ | .ins _ | .outs _ => true
  | _ => false

/-- The instructions whose rule leaves a flag or a result open (10_state.md R44), and those that read a port. -/
def mayDraw : Instr → Bool
  | .andRmReg .. | .andRegRm .. | .andAcc _ | .andRmImm .. | .andRmImm8 .. | .orRmReg .. | .orRegRm .. | .orAcc _
  | .orRmImm .. | .xorRmReg .. | .xorRegRm .. | .xorAcc _ | .xorRmImm .. | .testRmReg .. | .testAcc _ | .testRmImm .. => true
  | .mul .. | .imul .. | .div .. | .idiv .. | .aaa | .aas | .daa | .das | .aam | .aad => true
  | .rol .. | .ror .. | .rcl .. | .rcr .. | .shl .. | .shr .. | .sar .. => true
  | .inImm .. | .inDx _ | .ins _ => true
  | _ => false

/-- The name in the refusal of each instruction of level LX86: its mnemonic in the opcode table, but for the bytes 64h, 65h and
66h, whose rules R601 and R602 of 47_x86_ext_integer_system.md give another. -/
def refusalName : Instr → Option String
  | .faddMem .. => some "FADD"
  | .fcomMem .. => some "FCOM"
  | .fcompMem .. => some "FCOMP"
  | .fdivMem .. => some "FDIV"
  | .fdivrMem .. => some "FDIVR"
  | .faddReg .. => some "FADD"
  | .fcomReg .. => some "FCOM"
  | .fcompReg .. => some "FCOMP"
  | .fdivReg .. => some "FDIV"
  | .fdivrReg .. => some "FDIVR"
  | .fchs => some "FCHS"
  | .fabs => some "FABS"
  | .f2xm1 => some "F2XM1"
  | .fdecstp => some "FDECSTP"
  | .fcos => some "FCOS"
  | .fiaddMem .. => some "FIADD"
  | .fcmovb .. => some "FCMOVB"
  | .fcmove .. => some "FCMOVE"
  | .fcmovbe .. => some "FCMOVBE"
  | .fcmovu .. => some "FCMOVU"
  | .fcmovnb .. => some "FCMOVNB"
  | .fcmovne .. => some "FCMOVNE"
  | .fcmovnbe .. => some "FCMOVNBE"
  | .fcmovnu .. => some "FCMOVNU"
  | .fsetpm => some "FSETPM"
  | .fucomi .. => some "FUCOMI"
  | .fcomi .. => some "FCOMI"
  | .faddRegSt0 .. => some "FADD"
  | .fdivrRegSt0 .. => some "FDIVR"
  | .fdivRegSt0 .. => some "FDIV"
  | .ffree .. => some "FFREE"
  | .faddp .. => some "FADDP"
  | .fcompp => some "FCOMPP"
  | .fdivrp .. => some "FDIVRP"
  | .fdivp .. => some "FDIVP"
  | .fbld .. => some "FBLD"
  | .fbstp .. => some "FBSTP"
  | .ffreep .. => some "FFREEP"
  | .fucomip .. => some "FUCOMIP"
  | .fcomip .. => some "FCOMIP"
  | .feni => some "FENI"
  | .fdisi => some "FDISI"
  | .fclex => some "FCLEX"
  | .monitor => some "MONITOR"
  | .mwait => some "MWAIT"
  | .vmmcall => some "VMMCALL"
  | .stgi => some "STGI"
  | .clgi => some "CLGI"
  | .skinit => some "SKINIT"
  | .invlpga => some "INVLPGA"
  | .swapgs => some "SWAPGS"
  | .rdtscp => some "RDTSCP"
  | .syscall => some "SYSCALL"
  | .clts => some "CLTS"
  | .loadallSysret => some "LOADALL___SYSRET"
  | .wbinvd => some "WBINVD"
  | .ud2 => some "UD2"
  | .wrmsr => some "WRMSR"
  | .rdtsc => some "RDTSC"
  | .rdmsr => some "RDMSR"
  | .rdpmc => some "RDPMC"
  | .sysenter => some "SYSENTER"
  | .sysexit => some "SYSEXIT"
  | .cmovo .. => some "CMOVO"
  | .cmovno .. => some "CMOVNO"
  | .cmovb .. => some "CMOVB"
  | .cmovnb .. => some "CMOVNB"
  | .cmovz .. => some "CMOVZ"
  | .cmovnz .. => some "CMOVNZ"
  | .cmovbe .. => some "CMOVBE"
  | .cmovnbe .. => some "CMOVNBE"
  | .cmovs .. => some "CMOVS"
  | .cmovns .. => some "CMOVNS"
  | .cmovp .. => some "CMOVP"
  | .cmovnp .. => some "CMOVNP"
  | .cmovl .. => some "CMOVL"
  | .cmovnl .. => some "CMOVNL"
  | .cmovle .. => some "CMOVLE"
  | .cmovnle .. => some "CMOVNLE"
  | .pushFs => some "PUSH"
  | .popFs => some "POP"
  | .cpuid => some "CPUID"
  | .btRmReg .. => some "BT"
  | .pushGs => some "PUSH"
  | .popGs => some "POP"
  | .rsm => some "RSM"
  | .btsRmReg .. => some "BTS"
  | .clflush .. => some "CLFLUSH"
  | .lfence => some "LFENCE"
  | .mfence => some "MFENCE"
  | .sfence => some "SFENCE"
  | .cmpxchgRm8 .. => some "CMPXCHG"
  | .cmpxchgRm16 .. => some "CMPXCHG"
  | .btrRmReg .. => some "BTR"
  | .btRmImm .. => some "BT"
  | .btsRmImm .. => some "BTS"
  | .btrRmImm .. => some "BTR"
  | .btcRmImm .. => some "BTC"
  | .btcRmReg .. => some "BTC"
  | .bsf .. => some "BSF"
  | .bsr .. => some "BSR"
  | .cmpxchg8b .. => some "CMPXCHG8B"
  | .bswap .. => some "BSWAP"
  | .oio => some "OIO"
  | .arpl .. => some "ARPL"
  | .smiIcebp => some "SMI___ICEBP"
  | .pushad => some "PUSHAD"
  | .popad => some "POPAD"
  | .insd => some "INSD"
  | .outsd => some "OUTSD"
  | .cwde => some "CWDE"
  | .cdq => some "CDQ"
  | .pushfd => some "PUSHFD"
  | .popfd => some "POPFD"
  | .movsd => some "MOVSD"
  | .cmpsd => some "CMPSD"
  | .stosd => some "STOSD"
  | .lodsd => some "LODSD"
  | .scasd => some "SCASD"
  | .crc32 .. => some "CRC32"
  | .popcnt .. => some "POPCNT"
  | .pause => some "PAUSE"
  | .femms => some "FEMMS"
  | .cvtpi2ps .. => some "CVTPI2PS"
  | .cvttps2pi .. => some "CVTTPS2PI"
  | .cvtps2pi .. => some "CVTPS2PI"
  | .comiss .. => some "COMISS"
  | .andps .. => some "ANDPS"
  | .andnps .. => some "ANDNPS"
  | .addps .. => some "ADDPS"
  | .cvtps2pd .. => some "CVTPS2PD"
  | .cvtdq2ps .. => some "CVTDQ2PS"
  | .divps .. => some "DIVPS"
  | .emms => some "EMMS"
  | .cmpps .. => some "CMPPS"
  | .cvtpi2pd .. => some "CVTPI2PD"
  | .cvttpd2pi .. => some "CVTTPD2PI"
  | .cvtpd2pi .. => some "CVTPD2PI"
  | .comisd .. => some "COMISD"
  | .blendvps .. => some "BLENDVPS"
  | .blendvpd .. => some "BLENDVPD"
  | .aesimc .. => some "AESIMC"
  | .aesenc .. => some "AESENC"
  | .aesenclast .. => some "AESENCLAST"
  | .aesdec .. => some "AESDEC"
  | .aesdeclast .. => some "AESDECLAST"
  | .blendps .. => some "BLENDPS"
  | .blendpd .. => some "BLENDPD"
  | .dpps .. => some "DPPS"
  | .dppd .. => some "DPPD"
  | .aeskeygenassist .. => some "AESKEYGENASSIST"
  | .andpd .. => some "ANDPD"
  | .andnpd .. => some "ANDNPD"
  | .addpd .. => some "ADDPD"
  | .cvtpd2ps .. => some "CVTPD2PS"
  | .cvtps2dq .. => some "CVTPS2DQ"
  | .divpd .. => some "DIVPD"
  | .cmppd .. => some "CMPPD"
  | .addsubpd .. => some "ADDSUBPD"
  | .cvttpd2dq .. => some "CVTTPD2DQ"
  | .cvtsi2sd .. => some "CVTSI2SD"
  | .cvttsd2si .. => some "CVTTSD2SI"
  | .cvtsd2si .. => some "CVTSD2SI"
  | .addsd .. => some "ADDSD"
  | .cvtsd2ss .. => some "CVTSD2SS"
  | .divsd .. => some "DIVSD"
  | .cmpsdScalar .. => some "CMPSD"
  | .addsubps .. => some "ADDSUBPS"
  | .cvtpd2dq .. => some "CVTPD2DQ"
  | .cvtsi2ss .. => some "CVTSI2SS"
  | .cvttss2si .. => some "CVTTSS2SI"
  | .cvtss2si .. => some "CVTSS2SI"
  | .addss .. => some "ADDSS"
  | .cvtss2sd .. => some "CVTSS2SD"
  | .cvttps2dq .. => some "CVTTPS2DQ"
  | .divss .. => some "DIVSS"
  | .cmpss .. => some "CMPSS"
  | .cvtdq2pd .. => some "CVTDQ2PD"
  | .overrideFs => some "FS:/GS: prefix"
  | .overrideGs => some "FS:/GS: prefix"
  | .operandSize => some "operand-size prefix"
  | _ => none

/-- The next step goes on with the instruction in progress or the next one: no RESET on its sample, and no boundary due, or one
that accepts nothing (60_exceptions.md R720). -/
def State.GoesOn (s : State) : Prop :=
  s.sample.lines.reset = false ∧
    (s.boundary = none ∨ s.intInhibit = true ∨
      (s.boundary = some false ∧ s.sample.nmiLatched = false ∧ (s.sample.lines.intr = false ∨ s.flags.ifl = false)))

/-- The state that executes when a step goes on: sampled, and after a boundary int_inhibit is clear (60_exceptions.md R721). -/
def State.atExecute (s : State) : State :=
  if s.boundary = none then s.sample else (s.sample.setBoundary none).setIntInhibit false

/-- The machine is stopped for ever in a well-defined state: the conventional end of a run (60_exceptions.md R745 (a)). -/
def State.Ended (s : State) : Prop :=
  s.halted = true ∧ s.flags.ifl = false ∧ s.nmiLatched = false ∧ s.intInhibit = false ∧
    (s.boundary = none ∨ s.boundary = some false) ∧ ∀ l ∈ s.inputs, l.reset = false ∧ l.nmi = false

end Sys2Proof.Machine
end

