-- ==== Sys2Proof/Certificates/Slice0/Obligations.lean ====
section
/-! DEFINITION. The statements for the provers: the rules of the spec that say what an instruction or the machine does. -/
open Sys2Proof Sys2Proof.Machine

/-- The bytes 89 D8, 83 C3 FF, C7 41 02 34 12, F6 07 (with 80), 8E D8, D3 E0, 9A 34 12 00 20, F3, D8 06 34 12 and C8 08 00
00 (level L186) decode to the instructions that the worked examples of the spec name. Rules: 30_encoding.md R136,
R120, R160. -/
def Obligations.DecodeKnownWords : Prop :=
  decode .l8086 [0x89, 0xD8] = .ok (.movRmReg .word (.reg .r0) .r3, []) ∧
  decode .l8086 [0x83, 0xC3, 0xFF] = .ok (.addRmImm8 (.reg .r3) 0xFF, []) ∧
  decode .l8086 [0xC7, 0x41, 0x02, 0x34, 0x12] = .ok (.movRmImm (.mem (.disp8 .bxdi 2)) (.iw 0x1234), []) ∧
  decode .l8086 [0xF6, 0x07, 0x80] = .ok (.testRmImm (.mem (.base .bx)) (.ib 0x80), []) ∧
  decode .l8086 [0x8E, 0xD8] = .ok (.movSregRm .ds (.reg .r0), []) ∧
  decode .l8086 [0xD3, 0xE0] = .ok (.shl .word .cl (.reg .r0), []) ∧
  decode .l8086 [0x9A, 0x34, 0x12, 0x00, 0x20] = .ok (.callFar 0x1234 0x2000, []) ∧
  decode .l8086 [0xF3, 0xA4] = .ok (.rep, [0xA4]) ∧
  decode .l8086 [0xD8, 0x06, 0x34, 0x12] = .ok (.esc 0 0 (.mem (.direct 0x1234)), []) ∧
  decode .l186 [0xC8, 0x08, 0x00, 0x00] = .ok (.enter 8 0, [])

/-- For every level other than LX86, every instruction that is well-formed at it, with every operand value, and any bytes
after it: decode of its encoding followed by those bytes is the instruction and those bytes. Rules: 30_encoding.md
R120, R131, R160, R165. -/
def Obligations.DecodeEncodeBelowX86 : Prop :=
  ∀ (lvl : Level) (i : Instr) (rest : List Byte), lvl ≠ .lx86 → i.wf lvl = true →
    decode lvl (encode i ++ rest) = .ok (i, rest)

/-- For every instruction that is well-formed at level LX86, with every operand value: decode of its encoding is the
instruction and no bytes left. (Bytes that follow could make a longer row of a lone 9Bh, 66h, F2h or F3h.) Rules:
30_encoding.md R144, R165, R175. The model's own choices that it meets are in log entries 12 and 25. -/
def Obligations.DecodeEncodeX86 : Prop :=
  ∀ i : Instr, i.wf .lx86 = true → decode .lx86 (encode i) = .ok (i, [])

/-- For every level and every bytes: if decode answers an instruction and the bytes left, the instruction is well-formed
at that level (its row is of the level, and no reserved encoding such as MOV CS or a lone BP came through) and the
bytes are its encoding followed by those left, so no two byte sequences share an instruction. Rules: 30_encoding.md
R165, R180. -/
def Obligations.DecodedIsTheEncoding : Prop :=
  ∀ (lvl : Level) (bs rest : List Byte) (i : Instr), decode lvl bs = .ok (i, rest) →
    i.wf lvl = true ∧ bs = encode i ++ rest

/-- From every state whose next step goes on (no RESET on the sample, and no boundary due, or one with the shadow, or one
with no trap, no latched NMI and no request or IF = 0), with no hold: with nothing fetched ahead, a level below LX86
and the bytes of a well-formed instruction in RAM or ROM at CS:IP, the step is its exec from the sampled state
(int_inhibit clear after a boundary) with IP after its bytes and, where no prefix was read, start at its first byte;
then settle. A repeat prefix before an instruction that takes none is refused. While a repetition is in progress the
step is the exec of its instruction, then settle. In every such state the step is execute. settle leaves a prefix byte
as it is, makes the boundary due with the TF of before after any other instruction, and discards the prefix state
unless elements remain. Rules: 60_exceptions.md R706, R720, R721, 30_encoding.md R121, R123, R140, 43_string.md R345,
R348. The model's own choices that it meets are in log entries 6, 9, 10, 11, 22 and 23. -/
def Obligations.StepRunsInstruction : Prop :=
  (∀ (s u : State) (i : Instr), s.cfg.level ≠ .lx86 → i.wf s.cfg.level = true → s.GoesOn → s.halted = false →
    s.waiting = false → s.repeating = none → s.stale = [] →
    (∀ (k : Nat) (b : Byte), (encode i)[k]? = some b →
      (kindAt s.cfg.memMap (phys s.segs.cs (s.ip + BitVec.ofNat 16 k)) = .ram ∨
        kindAt s.cfg.memMap (phys s.segs.cs (s.ip + BitVec.ofNat 16 k)) = .rom) ∧
      s.byteAt (phys s.segs.cs (s.ip + BitVec.ofNat 16 k)) = some b) →
    u = (s.atExecute.setStart (if s.pfx.active then s.start else s.ip)).setIp (s.ip + BitVec.ofNat 16 (encode i).length) →
    (s.pfx.rep = none ∨ isPrefix i = true ∨ isString i = true →
      step s = match exec i u with
        | .next t => .next (settle i s.flags.tf t)
        | .fault f => .fault f
        | .refused r => .refused r) ∧
    (s.pfx.rep ≠ none → isPrefix i = false → isString i = false → step s = .refused .repeatOnNonString)) ∧
  (∀ (s : State) (i : Instr), s.GoesOn → s.halted = false → s.waiting = false → s.repeating = some i →
    step s = match exec i s.atExecute with
      | .next t => .next (settle i s.flags.tf t)
      | .fault f => .fault f
      | .refused r => .refused r) ∧
  (∀ s : State, s.GoesOn → step s = execute s.atExecute) ∧
  (∀ (i : Instr) (tf : Bool) (t : State), (isPrefix i = true → settle i tf t = t) ∧
    (isPrefix i = false → t.repeating ≠ none → settle i tf t = t.setBoundary (some tf)) ∧
    (isPrefix i = false → t.repeating = none → settle i tf t = (t.setPfx .none).setBoundary (some tf)))

/-- After r8[n] <- v: the word register that holds n has v in that half and its old other half, r8[n] reads v, and every
other byte register and every other word register reads as before. After r16[r] <- u both byte halves of r read the
bytes of u and every other word register reads as before. Rules: R32. -/
def Obligations.ByteRegisterHalves : Prop :=
  ∀ (s : State) (n : RegNum) (v : Byte) (r : RegNum) (u : Word),
    (s.setReg8 n v).reg8 n = v ∧
    (s.setReg8 n v).reg16 (byteHome n).1 =
      (if (byteHome n).2 then v ++ (s.reg16 (byteHome n).1).extractLsb' 0 8
        else (s.reg16 (byteHome n).1).extractLsb' 8 8 ++ v) ∧
    (∀ m, m ≠ n → (s.setReg8 n v).reg8 m = s.reg8 m) ∧
    (∀ m, m ≠ (byteHome n).1 → (s.setReg8 n v).reg16 m = s.reg16 m) ∧
    (s.setReg16 r u).reg16 r = u ∧
    (∀ m, byteHome m = (r, false) → (s.setReg16 r u).reg8 m = u.extractLsb' 0 8) ∧
    (∀ m, byteHome m = (r, true) → (s.setReg16 r u).reg8 m = u.extractLsb' 8 8) ∧
    (∀ m, m ≠ r → (s.setReg16 r u).reg16 m = s.reg16 m)

/-- For an access whose two bytes are RAM: after a word write of v the first byte holds v[7:0] and the second v[15:8];
after byte writes of b0 to the first and b1 to the second a word read answers b1 ++ b0 and changes nothing. No state
or parameter switches the order. Rules: R82. -/
def Obligations.WordByteOrder : Prop :=
  ∀ (s : State) (seg off v : Word) (b0 b1 : Byte), s.AllRam (s.accessBytes .word seg off) →
    (s.store .word seg off v).byteAt (byteAddr s.cfg.segWrap seg off 0) = some (v.extractLsb' 0 8) ∧
    (s.store .word seg off v).byteAt (byteAddr s.cfg.segWrap seg off 1) = some (v.extractLsb' 8 8) ∧
    load .word seg off ((s.storeByte (byteAddr s.cfg.segWrap seg off 0) b0).storeByte (byteAddr s.cfg.segWrap seg off 1) b1) =
      .ok (b1 ++ b0, (s.storeByte (byteAddr s.cfg.segWrap seg off 0) b0).storeByte (byteAddr s.cfg.segWrap seg off 1) b1)

/-- For every place whose bytes, if it is in memory, are RAM: reading it after the write answers the value written and
changes nothing. For every place, of any memory kind: every byte outside the place keeps its value, every word
register that is not the place keeps its value, and segment registers, IP, flags and the hidden state are as before.
Rules: 20_memory.md R87, R106, 10_state.md R32. -/
def Obligations.PlaceReadsBack : Prop :=
  ∀ (s : State) (w : Width) (l : Loc) (v : BitVec w.bits),
    (s.AllRam (s.locBytes w l) → readLoc w l (s.writeLoc w l v) = .ok (v, s.writeLoc w l v)) ∧
    (∀ x, x ∉ s.locBytes w l → (s.writeLoc w l v).byteAt x = s.byteAt x) ∧
    (∀ r, (∀ n, l = .reg n → r ≠ homeReg w n) → (s.writeLoc w l v).reg16 r = s.reg16 r) ∧
    (s.writeLoc w l v).segs = s.segs ∧ (s.writeLoc w l v).ip = s.ip ∧ (s.writeLoc w l v).flags = s.flags ∧
    SameHidden s (s.writeLoc w l v)

/-- For every place in registers, and every place in memory whose bytes are RAM or ROM and hold values: the read answers
the byte, or the word with the byte at the lower address in its low half, and the state is unchanged, so the read may
be repeated. Rules: 20_memory.md R80, R86, R91. The model's own choices that it meets are in log entry 2. -/
def Obligations.RamReadsAreQuiet : Prop :=
  ∀ (s : State) (seg off : Word) (lo hi : Byte) (r : RegNum) (w : Width),
    readLoc w (.reg r) s = .ok (s.reg w r, s) ∧
    (s.AllHold (s.accessBytes .byte seg off) → s.byteAt (byteAddr s.cfg.segWrap seg off 0) = some lo →
      load .byte seg off s = .ok (lo, s)) ∧
    (s.AllHold (s.accessBytes .word seg off) → s.byteAt (byteAddr s.cfg.segWrap seg off 0) = some lo →
      s.byteAt (byteAddr s.cfg.segWrap seg off 1) = some hi → load .word seg off s = .ok (hi ++ lo, s))

/-- A byte store to ROM or to an absent address leaves the state as it is; to a device it only adds the write to the
trace; to RAM the byte reads back, and what the address held before, a byte or no value, stays visible to the fetch if
it lies within the PREFETCH_DEPTH bytes at CS:IP. A byte read of an absent address answers the low byte of the next
free value; of a device the low byte of the next answer, with the read on the trace; of a RAM byte that holds no value
it faults. A word access to a device is two events, in rising order, and a read takes two answers. A fetch of RAM or
ROM sees memory where no store was kept; one kept store or memory, by a free bit, where one was; and never anything
else. A jump, an interrupt sequence and IRET discard all that was kept. Rules: 20_memory.md R86, R87, R91, R104,
70_reset_and_hazards.md R761, R766, R773. The model's own choices that it meets are in log entries 2, 7, 16 and 20. -/
def Obligations.MemoryKinds : Prop :=
  ∀ (s t : State) (x : Nat) (v : Byte) (a b : Word) (rest : List Word) (seg off : Word) (old : Option Byte),
    (kindAt s.cfg.memMap x = .rom ∨ kindAt s.cfg.memMap x = .absent → s.storeByte x v = s) ∧
    (kindAt s.cfg.memMap x = .device → s.storeByte x v = s.setEvents (.memWrite x v :: s.events)) ∧
    (kindAt s.cfg.memMap x = .ram → (s.storeByte x v).byteAt x = some v ∧
      ((∃ j, j < s.cfg.prefetchDepth.val ∧ x = phys s.segs.cs (s.ip + BitVec.ofNat 16 j)) →
        (s.storeByte x v).stale = (x, s.byteAt x) :: s.stale) ∧
      (¬ (∃ j, j < s.cfg.prefetchDepth.val ∧ x = phys s.segs.cs (s.ip + BitVec.ofNat 16 j)) →
        (s.storeByte x v).stale = s.stale)) ∧
    (kindAt s.cfg.memMap x = .absent → readByte x s = .ok ((Config.freeValue s.draws).extractLsb' 0 8, s.setDraws (s.draws + 1))) ∧
    (kindAt s.cfg.memMap x = .device → s.answers = a :: rest →
      readByte x s = .ok (a.extractLsb' 0 8, (s.setAnswers rest).setEvents (.memRead x (a.extractLsb' 0 8) :: s.events))) ∧
    (kindAt s.cfg.memMap x = .ram → s.byteAt x = none → readByte x s = .error (.fault (.noValue x))) ∧
    ((∀ y ∈ s.accessBytes .word seg off, kindAt s.cfg.memMap y = .device) →
      s.store .word seg off a = s.setEvents (.memWrite (byteAddr s.cfg.segWrap seg off 1) (a.extractLsb' 8 8) ::
        .memWrite (byteAddr s.cfg.segWrap seg off 0) (a.extractLsb' 0 8) :: s.events) ∧
      (s.answers = a :: b :: rest → load .word seg off s = .ok (b.extractLsb' 0 8 ++ a.extractLsb' 0 8,
        (s.setAnswers rest).setEvents (.memRead (byteAddr s.cfg.segWrap seg off 1) (b.extractLsb' 0 8) ::
          .memRead (byteAddr s.cfg.segWrap seg off 0) (a.extractLsb' 0 8) :: s.events)))) ∧
    (kindAt s.cfg.memMap s.codeAddr = .ram ∨ kindAt s.cfg.memMap s.codeAddr = .rom →
      ((∀ p ∈ s.stale, p.1 ≠ s.codeAddr) → fetchByte s = match s.byteAt s.codeAddr with
        | some c => .ok (c, s.setIp (s.ip + 1))
        | none => .error (.fault (.noCode s.codeAddr))) ∧
      (s.stale = [(s.codeAddr, old)] →
        fetchByte s = match (if (Config.freeValue s.draws).getLsbD 0 then old else s.byteAt s.codeAddr) with
          | some c => .ok (c, (s.setDraws (s.draws + 1)).setIp (s.ip + 1))
          | none => .error (.fault (.noCode s.codeAddr))) ∧
      (fetchByte s = .ok (v, t) → s.byteAt s.codeAddr = some v ∨ (s.codeAddr, some v) ∈ s.stale)) ∧
    (s.jump off).stale = [] ∧ (s.jumpFar seg off).stale = [] ∧ (runOp (interrupt v off) s = .next t → t.stale = []) ∧
    (exec .iret s = .next t → t.stale = [])

/-- For every state and every operand: MOV r/m,r; MOV r/m,imm; MOV r,imm; MOV [addr],AL/AX; MOV r/m16,sreg each answer the
next state in which the destination place is written with the source and nothing else is done. Rules:
40_data_transfer.md R200, R202, R203, R205, R207. -/
def Obligations.MovWrites : Prop :=
  ∀ (s : State) (w : Width) (rm : RM) (r : RegNum) (b : Byte) (v off : Word) (sr : SReg),
    exec (.movRmReg w rm r) s = .next (s.writeLoc w (s.locate rm) (s.reg w r)) ∧
    exec (.movRmImm rm (.ib b)) s = .next (s.writeLoc .byte (s.locate rm) b) ∧
    exec (.movRmImm rm (.iw v)) s = .next (s.writeLoc .word (s.locate rm) v) ∧
    exec (.movRegImm r (.ib b)) s = .next (s.setReg .byte r b) ∧
    exec (.movRegImm r (.iw v)) s = .next (s.setReg .word r v) ∧
    exec (.movMemAcc w off) s = .next (s.store w (s.sreg (s.pfx.seg.getD .ds)) off (s.reg w .r0)) ∧
    exec (.movRmSreg rm sr) s = .next (s.writeLoc .word (s.locate rm) (s.sreg sr))

/-- If the source can be read: MOV r,r/m; MOV AL/AX,[addr]; XLAT (at BX plus AL, unsigned, in DS or the override); MOV
sreg,r/m16 (which sets int_inhibit if INT_SHADOW_SEG is yes); LDS and LES (both words read first) answer the next
state with the destination written. LEA writes the effective offset and reads nothing. Rules: 40_data_transfer.md
R201, R204, R206, R223, R228, R229, R235. The model's own choices that it meets are in log entry 24. -/
def Obligations.MovReads : Prop :=
  ∀ (s t : State) (w : Width) (rm : RM) (r : RegNum) (m : MemEA) (off : Word) (sr : SReg),
    (∀ v, readRM w rm s = .ok (v, t) → exec (.movRegRm w r rm) s = .next (t.setReg w r v)) ∧
    (∀ v, load w (s.sreg (s.pfx.seg.getD .ds)) off s = .ok (v, t) → exec (.movAccMem w off) s = .next (t.setReg w .r0 v)) ∧
    (∀ v, load .byte (s.sreg (s.pfx.seg.getD .ds)) (s.regs.bx + (s.regs.ax.extractLsb' 0 8).setWidth 16) s = .ok (v, t) →
      exec .xlat s = .next (t.setReg .byte .r0 v)) ∧
    (∀ v, readRM .word rm s = .ok (v, t) → exec (.movSregRm sr rm) s =
      .next (if t.cfg.shadowSeg then (t.setSreg sr v).setIntInhibit true else t.setSreg sr v)) ∧
    (∀ a b, readPair m s = .ok ((a, b), t) → exec (.lds r m) s = .next ((t.setReg .word r a).setSreg .ds b) ∧
      exec (.les r m) s = .next ((t.setReg .word r a).setSreg .es b)) ∧
    exec (.lea r m) s = .next (s.setReg .word r (s.eaOff m))

/-- The offset of a memory operand is the sum that its r/m row names, plus an 8-bit displacement sign-extended or a 16-bit
one, modulo 2^16; the row 110 with mod 00 is the displacement alone. Its segment is that of the override prefix if one
was read, else SS where the row uses BP, else DS. Rules: 30_encoding.md R133, R134, R141. -/
def Obligations.EffectiveAddresses : Prop :=
  ∀ (s : State) (d : Byte) (v : Word),
    (∀ p ∈ [(Base.bxsi, s.regs.bx + s.regs.si), (.bxdi, s.regs.bx + s.regs.di), (.bpsi, s.regs.bp + s.regs.si),
        (.bpdi, s.regs.bp + s.regs.di), (.si, s.regs.si), (.di, s.regs.di), (.bp, s.regs.bp), (.bx, s.regs.bx)],
      (p.1 ≠ .bp → s.eaOff (.base p.1) = p.2) ∧ s.eaOff (.disp8 p.1 d) = p.2 + d.signExtend 16 ∧
      s.eaOff (.disp16 p.1 v) = p.2 + v) ∧
    s.eaOff (.direct v) = v ∧
    (∀ m n, s.pfx.seg = some n → s.eaSeg m = s.sreg n) ∧
    (s.pfx.seg = none → s.eaSeg (.direct v) = s.segs.ds ∧ ∀ b : Base,
      (b = .bpsi ∨ b = .bpdi ∨ b = .bp →
        s.eaSeg (.base b) = s.segs.ss ∧ s.eaSeg (.disp8 b d) = s.segs.ss ∧ s.eaSeg (.disp16 b v) = s.segs.ss) ∧
      (b ≠ .bpsi → b ≠ .bpdi → b ≠ .bp →
        s.eaSeg (.base b) = s.segs.ds ∧ s.eaSeg (.disp8 b d) = s.segs.ds ∧ s.eaSeg (.disp16 b v) = s.segs.ds))

/-- XCHG r/m,r, if its r/m can be read, writes the register to the place and the value read to the register; XCHG AX,r
exchanges; CBW sign-extends AL to AX; CWD fills DX with the sign of AX; LAHF copies FLAGS[7:0] to AH; SAHF writes SF,
ZF, AF, PF, CF from AH bits 7, 6, 4, 2, 0; SETALC makes AL FFh or 00h from CF. Nothing else changes. Rules:
40_data_transfer.md R221, R222, R232, R233, R234, 41_arithmetic.md R276, R281. -/
def Obligations.ExchangesAndConversions : Prop :=
  ∀ (s t : State) (w : Width) (rm : RM) (r : RegNum),
    (∀ a, readRM w rm s = .ok (a, t) → exec (.xchgRmReg w rm r) s =
      .next ((t.writeLoc w (s.locate rm) (s.reg w r)).setReg w r a)) ∧
    exec (.xchgAx r) s = .next ((s.setReg16 .r0 (s.reg16 r)).setReg16 r s.regs.ax) ∧
    exec .cbw s = .next (s.setReg16 .r0 ((s.regs.ax.extractLsb' 0 8).signExtend 16)) ∧
    exec .cwd s = .next (s.setReg16 .r2 (if s.regs.ax.getLsbD 15 then 0xFFFF else 0)) ∧
    exec .lahf s = .next (s.setReg8 .r4 (s.flagsWord.extractLsb' 0 8)) ∧
    exec .sahf s = .next (s.setFlags { s.flags with
      sf := s.regs.ax.getLsbD 15, zf := s.regs.ax.getLsbD 14, af := s.regs.ax.getLsbD 12, pf := s.regs.ax.getLsbD 10,
      cf := s.regs.ax.getLsbD 8 }) ∧
    exec .setalc s = .next (s.setReg8 .r0 (if s.flags.cf then 0xFF else 0))

/-- Reading FLAGS as a word gives CF, PF, AF, ZF, SF, TF, IF, DF, OF at bits 0, 2, 4, 6 to 11 and the parameter value
under its mask at the unnamed bits, F002h by default. Writing a word back takes the nine named bits and discards the
others, so writing what was read changes nothing. Rules: 10_state.md R40, R41. The model's own choices that it meets
are in log entry 31. -/
def Obligations.FlagsWordBits : Prop :=
  ∀ (cfg : Config) (f : Flags) (v : Word),
    Flags.ofWord (f.toWord cfg) = f ∧
    (f.toWord cfg) &&& 0xF02A = (cfg.flagsValue &&& cfg.flagsMask) &&& 0xF02A ∧
    (∀ g : Flags, g.toWord .default &&& 0xF02A = 0xF002) ∧
    ((Flags.ofWord v).toWord cfg) &&& 0x0FD5 = v &&& 0x0FD5 ∧
    (f.toWord cfg).getLsbD 0 = f.cf ∧ (f.toWord cfg).getLsbD 2 = f.pf ∧ (f.toWord cfg).getLsbD 4 = f.af ∧
    (f.toWord cfg).getLsbD 6 = f.zf ∧ (f.toWord cfg).getLsbD 7 = f.sf ∧ (f.toWord cfg).getLsbD 8 = f.tf ∧
    (f.toWord cfg).getLsbD 9 = f.ifl ∧ (f.toWord cfg).getLsbD 10 = f.df ∧ (f.toWord cfg).getLsbD 11 = f.ofl

/-- PUSH r16 and FF /6 with a register push the register, but for SP under PUSH_SP_VALUE = new, where SP - 2 is pushed;
PUSH of a memory operand that can be read pushes it; PUSH ES, CS, SS, DS, PUSH iw, PUSH ib (sign-extended) and PUSHF
push theirs. Each answers a next state. Rules: 40_data_transfer.md R210, R211, R212, R213, R220, R230. -/
def Obligations.PushResults : Prop :=
  ∀ (s t : State) (r : RegNum) (m : MemEA) (v : Word) (b : Byte),
    (¬ (r = .r4 ∧ s.cfg.pushSp = .new) →
      exec (.pushReg r) s = .next (s.push16 (s.reg16 r)) ∧ exec (.pushRm (.reg r)) s = .next (s.push16 (s.reg16 r))) ∧
    (s.cfg.pushSp = .new →
      exec (.pushReg .r4) s = .next (s.push16 (s.regs.sp - 2)) ∧ exec (.pushRm (.reg .r4)) s = .next (s.push16 (s.regs.sp - 2))) ∧
    (∀ a, readRM .word (.mem m) s = .ok (a, t) → exec (.pushRm (.mem m)) s = .next (t.push16 a)) ∧
    exec .pushEs s = .next (s.push16 s.segs.es) ∧ exec .pushCs s = .next (s.push16 s.segs.cs) ∧
    exec .pushSs s = .next (s.push16 s.segs.ss) ∧ exec .pushDs s = .next (s.push16 s.segs.ds) ∧
    exec (.pushImm v) s = .next (s.push16 v) ∧ exec (.pushImm8 b) s = .next (s.push16 (b.signExtend 16)) ∧
    exec .pushf s = .next (s.push16 s.flagsWord)

/-- If the word at SS:SP can be read: POP r16 writes it after SP + 2, so POP SP ends with the word; POP r/m16 writes the
place found before the pop; POP ES, SS, DS write the segment register and set int_inhibit if INT_SHADOW_SEG is yes;
POPF writes all nine flags. Rules: 40_data_transfer.md R214, R215, R216, R217, R231. -/
def Obligations.PopResults : Prop :=
  ∀ (s t : State) (v : Word) (r : RegNum) (rm : RM), load .word s.segs.ss s.regs.sp s = .ok (v, t) →
    exec (.popReg r) s = .next ((t.setReg16 .r4 (s.regs.sp + 2)).setReg16 r v) ∧
    exec (.popRm rm) s = .next ((t.setReg16 .r4 (s.regs.sp + 2)).writeLoc .word (s.locate rm) v) ∧
    (∀ (i : Instr) (n : SReg), (i, n) ∈ [(Instr.popEs, SReg.es), (.popSs, .ss), (.popDs, .ds)] →
      exec i s = .next (if t.cfg.shadowSeg then ((t.setReg16 .r4 (s.regs.sp + 2)).setSreg n v).setIntInhibit true
        else (t.setReg16 .r4 (s.regs.sp + 2)).setSreg n v)) ∧
    exec .popf s = .next ((t.setReg16 .r4 (s.regs.sp + 2)).setFlags
      { cf := v.getLsbD 0, pf := v.getLsbD 2, af := v.getLsbD 4, zf := v.getLsbD 6, sf := v.getLsbD 7, tf := v.getLsbD 8,
        ifl := v.getLsbD 9, df := v.getLsbD 10, ofl := v.getLsbD 11 })

/-- For every state, prefix state and word: a push gives the state with SP less 2 modulo 2^16 and the word written at SS
and the new SP; a pop, if the word at SS:SP can be read, answers it with SP plus 2 and writes no memory; a pop after a
push, with RAM under the two bytes, gives back the word and every general register. Rules: R210, R214. -/
def Obligations.PushAndPop : Prop :=
  ∀ (s t : State) (v w : Word),
    s.push16 v = (s.setReg16 .r4 (s.regs.sp - 2)).store .word s.segs.ss (s.regs.sp - 2) v ∧
    (load .word s.segs.ss s.regs.sp s = .ok (w, t) →
      pop16 s = .ok (w, t.setReg16 .r4 (s.regs.sp + 2)) ∧ (t.setReg16 .r4 (s.regs.sp + 2)).mem = s.mem) ∧
    (s.AllRam (s.pushBytes 1) → ∃ u, pop16 (s.push16 v) = .ok (v, u) ∧ u.regs = s.regs ∧ u.segs = s.segs ∧
      u.flags = s.flags ∧ u.mem = (s.push16 v).mem)

/-- PUSHA always answers a next state with SP 16 lower, IP as it was, and, where the 16 bytes are RAM, AX, CX, DX, BX, old
SP, BP, SI, DI from the highest word down. POPA, where the eight words at SS:SP can be read, loads DI, SI, BP, (none),
BX, DX, CX, AX in that order and adds 16 to SP, and changes nothing else. Rules: 40_data_transfer.md R218, R219. -/
def Obligations.PushaPopa : Prop :=
  ∀ (s : State),
    (∃ t, exec .pusha s = .next t ∧ t.regs = { s.regs with sp := s.regs.sp - 16 } ∧ t.ip = s.ip ∧
      (∀ x, x ∉ s.pushBytes 8 → t.byteAt x = s.byteAt x) ∧
      (s.AllRam (s.pushBytes 8) →
        ∀ p ∈ [(2, s.regs.ax), (4, s.regs.cx), (6, s.regs.dx), (8, s.regs.bx), (10, s.regs.sp), (12, s.regs.bp),
            (14, s.regs.si), (16, s.regs.di)], t.HoldsWord s.segs.ss (s.regs.sp - BitVec.ofNat 16 p.1) p.2)) ∧
    (∀ w0 w1 w2 w3 w4 w5 w6 w7 : Word,
      (∀ p ∈ [(0, w0), (2, w1), (4, w2), (6, w3), (8, w4), (10, w5), (12, w6), (14, w7)],
        s.HoldsWord s.segs.ss (s.regs.sp + BitVec.ofNat 16 p.1) p.2) →
      exec .popa s = .next (s.setRegs { di := w0, si := w1, bp := w2, sp := s.regs.sp + 16, bx := w4, dx := w5, cx := w6, ax := w7 }))

/-- OUT imm8 and OUT DX always answer the next state with one write event for the zero-extended immediate or DX. IN imm8
and IN DX, when the platform has an answer, take it (its low byte for AL) and add one read event; with no answer left
the value is free. Rules: 40_data_transfer.md R224, R225, R226, R227, 20_memory.md R95. The model's own choices that
it meets are in log entries 7 and 19. -/
def Obligations.PortAccesses : Prop :=
  ∀ (s : State) (b : Byte) (a : Word) (rest : List Word),
    exec (.outImm .byte b) s = .next (s.setEvents (.ioWrite (b.setWidth 16) .byte ((s.regs.ax.extractLsb' 0 8).setWidth 16) :: s.events)) ∧
    exec (.outImm .word b) s = .next (s.setEvents (.ioWrite (b.setWidth 16) .word s.regs.ax :: s.events)) ∧
    exec (.outDx .byte) s = .next (s.setEvents (.ioWrite s.regs.dx .byte ((s.regs.ax.extractLsb' 0 8).setWidth 16) :: s.events)) ∧
    exec (.outDx .word) s = .next (s.setEvents (.ioWrite s.regs.dx .word s.regs.ax :: s.events)) ∧
    (∀ (i : Instr) (port : Word), (i, port) ∈ [(Instr.inImm .word b, b.setWidth 16), (.inDx .word, s.regs.dx)] →
      (s.answers = a :: rest → exec i s =
        .next (((s.setAnswers rest).setEvents (.ioRead port .word a :: s.events)).setReg .word .r0 a)) ∧
      (s.answers = [] → exec i s = .next (((s.setDraws (s.draws + 1)).setEvents
        (.ioRead port .word (Config.freeValue s.draws) :: s.events)).setReg .word .r0 (Config.freeValue s.draws)))) ∧
    (∀ (i : Instr) (port : Word), (i, port) ∈ [(Instr.inImm .byte b, b.setWidth 16), (.inDx .byte, s.regs.dx)] →
      (s.answers = a :: rest → exec i s = .next (((s.setAnswers rest).setEvents
        (.ioRead port .byte ((a.extractLsb' 0 8).setWidth 16) :: s.events)).setReg .byte .r0 (a.extractLsb' 0 8))) ∧
      (s.answers = [] → exec i s = .next (((s.setDraws (s.draws + 1)).setEvents
        (.ioRead port .byte (((Config.freeValue s.draws).extractLsb' 0 8).setWidth 16) :: s.events)).setReg .byte .r0
          ((Config.freeValue s.draws).extractLsb' 0 8))))

/-- If the r/m operand can be read: the destination is written with the sum or difference modulo 2^N (with CF added or
borrowed for ADC and SBB), the six status flags are those of add_N or sub_N, and CMP writes no operand. Each answers a
next state. Rules: 41_arithmetic.md R250, R251, R253, R254, R257, R258. -/
def Obligations.AddSubWithRegister : Prop :=
  ∀ (s t : State) (w : Width) (rm : RM) (r : RegNum) (a : BitVec w.bits), readRM w rm s = .ok (a, t) →
    exec (.addRmReg w rm r) s = .next ((t.setFlags (s.flags.add a (s.reg w r) false)).writeLoc w (s.locate rm) (a + s.reg w r)) ∧
    exec (.adcRmReg w rm r) s = .next ((t.setFlags (s.flags.add a (s.reg w r) s.flags.cf)).writeLoc w (s.locate rm)
      (a + s.reg w r + BitVec.ofNat w.bits s.flags.cf.toNat)) ∧
    exec (.subRmReg w rm r) s = .next ((t.setFlags (s.flags.sub a (s.reg w r) false)).writeLoc w (s.locate rm) (a - s.reg w r)) ∧
    exec (.sbbRmReg w rm r) s = .next ((t.setFlags (s.flags.sub a (s.reg w r) s.flags.cf)).writeLoc w (s.locate rm)
      (a - s.reg w r - BitVec.ofNat w.bits s.flags.cf.toNat)) ∧
    exec (.cmpRmReg w rm r) s = .next (t.setFlags (s.flags.sub a (s.reg w r) false)) ∧
    exec (.addRegRm w r rm) s = .next ((t.setFlags (s.flags.add (s.reg w r) a false)).setReg w r (s.reg w r + a)) ∧
    exec (.adcRegRm w r rm) s = .next ((t.setFlags (s.flags.add (s.reg w r) a s.flags.cf)).setReg w r
      (s.reg w r + a + BitVec.ofNat w.bits s.flags.cf.toNat)) ∧
    exec (.subRegRm w r rm) s = .next ((t.setFlags (s.flags.sub (s.reg w r) a false)).setReg w r (s.reg w r - a)) ∧
    exec (.sbbRegRm w r rm) s = .next ((t.setFlags (s.flags.sub (s.reg w r) a s.flags.cf)).setReg w r
      (s.reg w r - a - BitVec.ofNat w.bits s.flags.cf.toNat)) ∧
    exec (.cmpRegRm w r rm) s = .next (t.setFlags (s.flags.sub (s.reg w r) a false))

/-- If the r/m operand can be read: forms 80h, 81h and 83h (byte sign-extended to 16 bits) write the sum or difference
modulo 2^N with the flags of add_N or sub_N, and CMP only the flags. The accumulator forms need no condition. Rules:
41_arithmetic.md R250, R251, R253, R254, R257, R258, 30_encoding.md R151. -/
def Obligations.AddSubWithImmediate : Prop :=
  ∀ (s t : State) (rm : RM) (b : Byte) (v : Word),
    (∀ x : Byte, readRM .byte rm s = .ok (x, t) →
      exec (.addRmImm rm (.ib b)) s = .next ((t.setFlags (s.flags.add x b false)).writeLoc .byte (s.locate rm) (x + b)) ∧
      exec (.adcRmImm rm (.ib b)) s = .next ((t.setFlags (s.flags.add x b s.flags.cf)).writeLoc .byte (s.locate rm) (x + b + BitVec.ofNat 8 s.flags.cf.toNat)) ∧
      exec (.subRmImm rm (.ib b)) s = .next ((t.setFlags (s.flags.sub x b false)).writeLoc .byte (s.locate rm) (x - b)) ∧
      exec (.sbbRmImm rm (.ib b)) s = .next ((t.setFlags (s.flags.sub x b s.flags.cf)).writeLoc .byte (s.locate rm) (x - b - BitVec.ofNat 8 s.flags.cf.toNat)) ∧
      exec (.cmpRmImm rm (.ib b)) s = .next (t.setFlags (s.flags.sub x b false))) ∧
    (∀ y : Word, readRM .word rm s = .ok (y, t) →
      exec (.addRmImm rm (.iw v)) s = .next ((t.setFlags (s.flags.add y v false)).writeLoc .word (s.locate rm) (y + v)) ∧
      exec (.addRmImm8 rm b) s = .next ((t.setFlags (s.flags.add y (b.signExtend 16) false)).writeLoc .word (s.locate rm) (y + (b.signExtend 16))) ∧
      exec (.adcRmImm rm (.iw v)) s = .next ((t.setFlags (s.flags.add y v s.flags.cf)).writeLoc .word (s.locate rm) (y + v + BitVec.ofNat 16 s.flags.cf.toNat)) ∧
      exec (.adcRmImm8 rm b) s = .next ((t.setFlags (s.flags.add y (b.signExtend 16) s.flags.cf)).writeLoc .word (s.locate rm) (y + (b.signExtend 16) + BitVec.ofNat 16 s.flags.cf.toNat)) ∧
      exec (.subRmImm rm (.iw v)) s = .next ((t.setFlags (s.flags.sub y v false)).writeLoc .word (s.locate rm) (y - v)) ∧
      exec (.subRmImm8 rm b) s = .next ((t.setFlags (s.flags.sub y (b.signExtend 16) false)).writeLoc .word (s.locate rm) (y - (b.signExtend 16))) ∧
      exec (.sbbRmImm rm (.iw v)) s = .next ((t.setFlags (s.flags.sub y v s.flags.cf)).writeLoc .word (s.locate rm) (y - v - BitVec.ofNat 16 s.flags.cf.toNat)) ∧
      exec (.sbbRmImm8 rm b) s = .next ((t.setFlags (s.flags.sub y (b.signExtend 16) s.flags.cf)).writeLoc .word (s.locate rm) (y - (b.signExtend 16) - BitVec.ofNat 16 s.flags.cf.toNat)) ∧
      exec (.cmpRmImm rm (.iw v)) s = .next (t.setFlags (s.flags.sub y v false)) ∧
      exec (.cmpRmImm8 rm b) s = .next (t.setFlags (s.flags.sub y (b.signExtend 16) false))) ∧
    exec (.addAcc (.ib b)) s = .next ((s.setFlags (s.flags.add (s.reg .byte .r0) b false)).writeLoc .byte (.reg .r0) ((s.reg .byte .r0) + b)) ∧
    exec (.addAcc (.iw v)) s = .next ((s.setFlags (s.flags.add (s.reg .word .r0) v false)).writeLoc .word (.reg .r0) ((s.reg .word .r0) + v)) ∧
    exec (.adcAcc (.ib b)) s = .next ((s.setFlags (s.flags.add (s.reg .byte .r0) b s.flags.cf)).writeLoc .byte (.reg .r0) ((s.reg .byte .r0) + b + BitVec.ofNat 8 s.flags.cf.toNat)) ∧
    exec (.adcAcc (.iw v)) s = .next ((s.setFlags (s.flags.add (s.reg .word .r0) v s.flags.cf)).writeLoc .word (.reg .r0) ((s.reg .word .r0) + v + BitVec.ofNat 16 s.flags.cf.toNat)) ∧
    exec (.subAcc (.ib b)) s = .next ((s.setFlags (s.flags.sub (s.reg .byte .r0) b false)).writeLoc .byte (.reg .r0) ((s.reg .byte .r0) - b)) ∧
    exec (.subAcc (.iw v)) s = .next ((s.setFlags (s.flags.sub (s.reg .word .r0) v false)).writeLoc .word (.reg .r0) ((s.reg .word .r0) - v)) ∧
    exec (.sbbAcc (.ib b)) s = .next ((s.setFlags (s.flags.sub (s.reg .byte .r0) b s.flags.cf)).writeLoc .byte (.reg .r0) ((s.reg .byte .r0) - b - BitVec.ofNat 8 s.flags.cf.toNat)) ∧
    exec (.sbbAcc (.iw v)) s = .next ((s.setFlags (s.flags.sub (s.reg .word .r0) v s.flags.cf)).writeLoc .word (.reg .r0) ((s.reg .word .r0) - v - BitVec.ofNat 16 s.flags.cf.toNat)) ∧
    exec (.cmpAcc (.ib b)) s = .next (s.setFlags (s.flags.sub (s.reg .byte .r0) b false)) ∧
    exec (.cmpAcc (.iw v)) s = .next (s.setFlags (s.flags.sub (s.reg .word .r0) v false))

/-- For every width N of at least 4 bits, every a, b, carry c and free value u: after add_N, CF says that the unsigned sum
does not fit, AF that the low nibbles carry, OF that the signed sum does not fit, ZF, SF, PF describe the result;
after sub_N, CF and AF are the borrows and OF says that the signed difference does not fit; logic_N clears CF and OF,
describes its result and takes AF from u; TF, IF, DF are kept. N = 8 and 16 are instances. Rules: 10_state.md R42,
R43. The model's own choices that it meets are in log entry 5. -/
def Obligations.StatusFlagsMean : Prop :=
  ∀ (n : Nat) (a b : BitVec n) (c : Bool) (f : Flags) (u : Word), 4 ≤ n →
    ((f.add a b c).cf = true ↔ 2 ^ n ≤ a.toNat + b.toNat + c.toNat) ∧
    ((f.add a b c).af = true ↔ 16 ≤ (a.extractLsb' 0 4).toNat + (b.extractLsb' 0 4).toNat + c.toNat) ∧
    ((f.add a b c).ofl = true ↔ a.toInt + b.toInt + c.toNat ≠ (a + b + BitVec.ofNat n c.toNat).toInt) ∧
    ((f.add a b c).zf = true ↔ a + b + BitVec.ofNat n c.toNat = 0) ∧
    ((f.add a b c).sf = true ↔ (a + b + BitVec.ofNat n c.toNat).toInt < 0) ∧
    (f.add a b c).pf = evenParity (a + b + BitVec.ofNat n c.toNat) ∧
    ((f.sub a b c).cf = true ↔ a.toNat < b.toNat + c.toNat) ∧
    ((f.sub a b c).af = true ↔ (a.extractLsb' 0 4).toNat < (b.extractLsb' 0 4).toNat + c.toNat) ∧
    ((f.sub a b c).ofl = true ↔ a.toInt - b.toInt - c.toNat ≠ (a - b - BitVec.ofNat n c.toNat).toInt) ∧
    ((f.sub a b c).zf = true ↔ a - b - BitVec.ofNat n c.toNat = 0) ∧
    ((f.sub a b c).sf = true ↔ (a - b - BitVec.ofNat n c.toNat).toInt < 0) ∧
    (f.sub a b c).pf = evenParity (a - b - BitVec.ofNat n c.toNat) ∧
    (f.logic a u).cf = false ∧ (f.logic a u).ofl = false ∧ ((f.logic a u).sf = true ↔ a.toInt < 0) ∧
    ((f.logic a u).zf = true ↔ a = 0) ∧ (f.logic a u).pf = evenParity a ∧ (f.logic a u).af = u.getLsbD 4 ∧
    SameControl f (f.add a b c) ∧ SameControl f (f.sub a b c) ∧ SameControl f (f.logic a u) ∧
    (evenParity a = true ↔ ((List.range 8).filter fun i => a.getLsbD i).length % 2 = 0)

/-- If the r/m operand a can be read, CMP r/m,r answers a next state, writes no register and no memory, and the jump
conditions hold exactly so: JZ a = b, JB a < b, JBE a <= b, JNBE a > b unsigned; JL a < b, JLE a <= b, JNLE a > b, JNL
a >= b signed. Rules: 41_arithmetic.md R257, 44_control_transfer.md R380. -/
def Obligations.CompareOrdersOperands : Prop :=
  ∀ (s t : State) (w : Width) (rm : RM) (r : RegNum) (a : BitVec w.bits), readRM w rm s = .ok (a, t) →
    ∃ u, exec (.cmpRmReg w rm r) s = .next u ∧ u.regs = s.regs ∧ u.mem = s.mem ∧
      (Cond.holds u.flags .z = true ↔ a = s.reg w r) ∧ (Cond.holds u.flags .nz = true ↔ a ≠ s.reg w r) ∧
      (Cond.holds u.flags .b = true ↔ a.toNat < (s.reg w r).toNat) ∧ (Cond.holds u.flags .nb = true ↔ (s.reg w r).toNat ≤ a.toNat) ∧
      (Cond.holds u.flags .be = true ↔ a.toNat ≤ (s.reg w r).toNat) ∧ (Cond.holds u.flags .nbe = true ↔ (s.reg w r).toNat < a.toNat) ∧
      (Cond.holds u.flags .l = true ↔ a.toInt < (s.reg w r).toInt) ∧ (Cond.holds u.flags .nl = true ↔ (s.reg w r).toInt ≤ a.toInt) ∧
      (Cond.holds u.flags .le = true ↔ a.toInt ≤ (s.reg w r).toInt) ∧ (Cond.holds u.flags .nle = true ↔ (s.reg w r).toInt < a.toInt)

/-- If the operand can be read: INC and DEC write the operand plus or minus 1 with the flags of add_N or sub_N but CF
unchanged; NEG writes 0 - a with the flags of sub_N(0, a, 0); NOT writes the complement. INC r16 and DEC r16 need no
condition. Rules: 41_arithmetic.md R252, R255, R256, 42_logic_shift_rotate.md R300. -/
def Obligations.IncDecNegNot : Prop :=
  ∀ (s t : State) (w : Width) (rm : RM) (r : RegNum) (a : BitVec w.bits), readRM w rm s = .ok (a, t) →
    exec (.incRm w rm) s = .next ((t.setFlags { s.flags.add a 1 false with cf := s.flags.cf }).writeLoc w (s.locate rm) (a + 1)) ∧
    exec (.decRm w rm) s = .next ((t.setFlags { s.flags.sub a 1 false with cf := s.flags.cf }).writeLoc w (s.locate rm) (a - 1)) ∧
    exec (.neg w rm) s = .next ((t.setFlags (s.flags.sub 0 a false)).writeLoc w (s.locate rm) (-a)) ∧
    exec (.notRm w rm) s = .next (t.writeLoc w (s.locate rm) (~~~a)) ∧
    exec (.incReg r) s = .next ((s.setFlags { s.flags.add (s.reg16 r) 1 false with cf := s.flags.cf }).setReg16 r (s.reg16 r + 1)) ∧
    exec (.decReg r) s = .next ((s.setFlags { s.flags.sub (s.reg16 r) 1 false with cf := s.flags.cf }).setReg16 r (s.reg16 r - 1))

/-- If the r/m operand can be read: AND, OR and XOR, in both directions, write the bitwise result, TEST writes no operand,
and the flags are those of logic_N with AF the free value drawn. Each answers a next state. Rules:
42_logic_shift_rotate.md R301, R302, R303, R304, 41_arithmetic.md R258. The model's own choices that it meets are in
log entry 5. -/
def Obligations.LogicWithRegister : Prop :=
  ∀ (s t : State) (w : Width) (rm : RM) (r : RegNum) (a : BitVec w.bits), readRM w rm s = .ok (a, t) →
    exec (.andRmReg w rm r) s = .next (((t.setDraws (t.draws + 1)).setFlags (s.flags.logic (a &&& s.reg w r) (Config.freeValue t.draws))).writeLoc w (s.locate rm) (a &&& s.reg w r)) ∧
    exec (.andRegRm w r rm) s = .next (((t.setDraws (t.draws + 1)).setFlags (s.flags.logic (s.reg w r &&& a) (Config.freeValue t.draws))).setReg w r (s.reg w r &&& a)) ∧
    exec (.orRmReg w rm r) s = .next (((t.setDraws (t.draws + 1)).setFlags (s.flags.logic (a ||| s.reg w r) (Config.freeValue t.draws))).writeLoc w (s.locate rm) (a ||| s.reg w r)) ∧
    exec (.orRegRm w r rm) s = .next (((t.setDraws (t.draws + 1)).setFlags (s.flags.logic (s.reg w r ||| a) (Config.freeValue t.draws))).setReg w r (s.reg w r ||| a)) ∧
    exec (.xorRmReg w rm r) s = .next (((t.setDraws (t.draws + 1)).setFlags (s.flags.logic (a ^^^ s.reg w r) (Config.freeValue t.draws))).writeLoc w (s.locate rm) (a ^^^ s.reg w r)) ∧
    exec (.xorRegRm w r rm) s = .next (((t.setDraws (t.draws + 1)).setFlags (s.flags.logic (s.reg w r ^^^ a) (Config.freeValue t.draws))).setReg w r (s.reg w r ^^^ a)) ∧
    exec (.testRmReg w rm r) s = .next ((t.setDraws (t.draws + 1)).setFlags (s.flags.logic (a &&& s.reg w r) (Config.freeValue t.draws)))

/-- If the r/m operand can be read: the immediate forms, 83h /4 with its sign-extended byte among them, write the bitwise
result (TEST none) with the flags of logic_N, AF the free value drawn. The accumulator forms need no condition. Rules:
42_logic_shift_rotate.md R301, R302, R303, R304, 30_encoding.md R151. The model's own choices that it meets are in log
entry 5. -/
def Obligations.LogicWithImmediate : Prop :=
  ∀ (s t : State) (rm : RM) (b : Byte) (v : Word),
    (∀ x : Byte, readRM .byte rm s = .ok (x, t) →
      exec (.andRmImm rm (.ib b)) s = .next (((t.setDraws (t.draws + 1)).setFlags (s.flags.logic (x &&& b) (Config.freeValue t.draws))).writeLoc .byte (s.locate rm) (x &&& b)) ∧
      exec (.orRmImm rm (.ib b)) s = .next (((t.setDraws (t.draws + 1)).setFlags (s.flags.logic (x ||| b) (Config.freeValue t.draws))).writeLoc .byte (s.locate rm) (x ||| b)) ∧
      exec (.xorRmImm rm (.ib b)) s = .next (((t.setDraws (t.draws + 1)).setFlags (s.flags.logic (x ^^^ b) (Config.freeValue t.draws))).writeLoc .byte (s.locate rm) (x ^^^ b)) ∧
      exec (.testRmImm rm (.ib b)) s = .next ((t.setDraws (t.draws + 1)).setFlags (s.flags.logic (x &&& b) (Config.freeValue t.draws)))) ∧
    (∀ y : Word, readRM .word rm s = .ok (y, t) →
      exec (.andRmImm rm (.iw v)) s = .next (((t.setDraws (t.draws + 1)).setFlags (s.flags.logic (y &&& v) (Config.freeValue t.draws))).writeLoc .word (s.locate rm) (y &&& v)) ∧
      exec (.orRmImm rm (.iw v)) s = .next (((t.setDraws (t.draws + 1)).setFlags (s.flags.logic (y ||| v) (Config.freeValue t.draws))).writeLoc .word (s.locate rm) (y ||| v)) ∧
      exec (.xorRmImm rm (.iw v)) s = .next (((t.setDraws (t.draws + 1)).setFlags (s.flags.logic (y ^^^ v) (Config.freeValue t.draws))).writeLoc .word (s.locate rm) (y ^^^ v)) ∧
      exec (.andRmImm8 rm b) s = .next (((t.setDraws (t.draws + 1)).setFlags (s.flags.logic (y &&& b.signExtend 16) (Config.freeValue t.draws))).writeLoc .word (s.locate rm) (y &&& b.signExtend 16)) ∧
      exec (.testRmImm rm (.iw v)) s = .next ((t.setDraws (t.draws + 1)).setFlags (s.flags.logic (y &&& v) (Config.freeValue t.draws)))) ∧
    exec (.andAcc (.ib b)) s = .next (((s.setDraws (s.draws + 1)).setFlags (s.flags.logic (s.reg8 .r0 &&& b) (Config.freeValue s.draws))).setReg8 .r0 (s.reg8 .r0 &&& b)) ∧
    exec (.andAcc (.iw v)) s = .next (((s.setDraws (s.draws + 1)).setFlags (s.flags.logic (s.reg16 .r0 &&& v) (Config.freeValue s.draws))).setReg16 .r0 (s.reg16 .r0 &&& v)) ∧
    exec (.orAcc (.ib b)) s = .next (((s.setDraws (s.draws + 1)).setFlags (s.flags.logic (s.reg8 .r0 ||| b) (Config.freeValue s.draws))).setReg8 .r0 (s.reg8 .r0 ||| b)) ∧
    exec (.orAcc (.iw v)) s = .next (((s.setDraws (s.draws + 1)).setFlags (s.flags.logic (s.reg16 .r0 ||| v) (Config.freeValue s.draws))).setReg16 .r0 (s.reg16 .r0 ||| v)) ∧
    exec (.xorAcc (.ib b)) s = .next (((s.setDraws (s.draws + 1)).setFlags (s.flags.logic (s.reg8 .r0 ^^^ b) (Config.freeValue s.draws))).setReg8 .r0 (s.reg8 .r0 ^^^ b)) ∧
    exec (.xorAcc (.iw v)) s = .next (((s.setDraws (s.draws + 1)).setFlags (s.flags.logic (s.reg16 .r0 ^^^ v) (Config.freeValue s.draws))).setReg16 .r0 (s.reg16 .r0 ^^^ v)) ∧
    exec (.testAcc (.ib b)) s = .next ((s.setDraws (s.draws + 1)).setFlags (s.flags.logic (s.reg8 .r0 &&& b) (Config.freeValue s.draws))) ∧
    exec (.testAcc (.iw v)) s = .next ((s.setDraws (s.draws + 1)).setFlags (s.flags.logic (s.reg16 .r0 &&& v) (Config.freeValue s.draws)))

/-- For every state each answers a next state: AAA and AAS add or subtract 6 in AL and 1 in AH when the low nibble exceeds
9 or AF is set, mask AL to its low nibble and set AF = CF = whether they adjusted; AAM splits AL by 10; AAD makes AL =
AH*10 + AL modulo 256 and AH = 0; SF, ZF, PF of AAM and AAD are those of AL; TF, IF, DF, the other general registers,
segment registers, IP, memory and hidden state are unchanged. Rules: 41_arithmetic.md R260, R262, R274, R275. The
model's own choices that it meets are in log entry 5. -/
def Obligations.AsciiAndBaseAdjust : Prop :=
  ∀ (s : State) (al ah : Byte), al = s.reg8 .r0 → ah = s.reg8 .r4 →
    (∀ adj : Bool, (adj = true ↔ 9 < al.toNat % 16 ∨ s.flags.af = true) →
      (∃ t, exec .aaa s = .next t ∧ t.regs = ((s.setReg8 .r0 ((if adj then al + 6 else al) &&& 0x0F)).setReg8 .r4
          (if adj then ah + 1 else ah)).regs ∧ t.flags.af = adj ∧ t.flags.cf = adj ∧ SameControl s.flags t.flags ∧
          t.mem = s.mem ∧ t.segs = s.segs ∧ t.ip = s.ip ∧ SameHidden s t) ∧
      (∃ t, exec .aas s = .next t ∧ t.regs = ((s.setReg8 .r0 ((if adj then al - 6 else al) &&& 0x0F)).setReg8 .r4
          (if adj then ah - 1 else ah)).regs ∧ t.flags.af = adj ∧ t.flags.cf = adj ∧ SameControl s.flags t.flags ∧
          t.mem = s.mem ∧ t.segs = s.segs ∧ t.ip = s.ip ∧ SameHidden s t)) ∧
    (∃ t, exec .aam s = .next t ∧ (t.reg8 .r4).toNat = al.toNat / 10 ∧ (t.reg8 .r0).toNat = al.toNat % 10 ∧ t.regs = { s.regs with ax := t.regs.ax } ∧
      (t.flags.zf = true ↔ t.reg8 .r0 = 0) ∧ t.flags.sf = (t.reg8 .r0).msb ∧ t.flags.pf = evenParity (t.reg8 .r0) ∧
      SameControl s.flags t.flags ∧ t.mem = s.mem ∧ t.segs = s.segs ∧ t.ip = s.ip ∧ SameHidden s t) ∧
    (∃ t, exec .aad s = .next t ∧ (t.reg8 .r0).toNat = (ah.toNat * 10 + al.toNat) % 256 ∧ t.reg8 .r4 = 0 ∧ t.regs = { s.regs with ax := t.regs.ax } ∧
      (t.flags.zf = true ↔ t.reg8 .r0 = 0) ∧ t.flags.sf = (t.reg8 .r0).msb ∧ t.flags.pf = evenParity (t.reg8 .r0) ∧
      SameControl s.flags t.flags ∧ t.mem = s.mem ∧ t.segs = s.segs ∧ t.ip = s.ip ∧ SameHidden s t)

/-- For every state DAA and DAS answer a next state that changes AL only among the registers, with SF, ZF, PF of the final
AL, AF = whether the first step applied, TF, IF, DF, segment registers, IP, memory and hidden state kept. Where the
rule leaves AL and CF open they are free; elsewhere AL and CF are those of the two steps, the second test looking at
the AL of the first. Rules: 41_arithmetic.md R261, R263. The model's own choices that it meets are in log entries 5
and 17. -/
def Obligations.DecimalAdjustSteps : Prop :=
  ∀ (s : State) (al a1 d1 : Byte), al = s.reg8 .r0 →
    a1 = (if 9 < al.toNat % 16 ∨ s.flags.af = true then al + 6 else al) →
    d1 = (if 9 < al.toNat % 16 ∨ s.flags.af = true then al - 6 else al) →
    (∃ t, exec .daa s = .next t ∧ (∃ b, t.regs = (s.setReg8 .r0 b).regs) ∧
      t.flags.sf = (t.reg8 .r0).msb ∧ (t.flags.zf = true ↔ t.reg8 .r0 = 0) ∧ t.flags.pf = evenParity (t.reg8 .r0) ∧
      (t.flags.af = true ↔ 9 < al.toNat % 16 ∨ s.flags.af = true) ∧ SameControl s.flags t.flags ∧ t.mem = s.mem ∧ t.segs = s.segs ∧ t.ip = s.ip ∧ SameHidden s t ∧
      (¬ ((9 < al.toNat % 16 ∨ s.flags.af = true) ∧ 0xF9 < al.toNat) →
        t.reg8 .r0 = (if 9 < a1.toNat / 16 ∨ s.flags.cf = true then a1 + 0x60 else a1) ∧
        (t.flags.cf = true ↔ 9 < a1.toNat / 16 ∨ s.flags.cf = true))) ∧
    (∃ t, exec .das s = .next t ∧ (∃ b, t.regs = (s.setReg8 .r0 b).regs) ∧
      t.flags.sf = (t.reg8 .r0).msb ∧ (t.flags.zf = true ↔ t.reg8 .r0 = 0) ∧ t.flags.pf = evenParity (t.reg8 .r0) ∧
      (t.flags.af = true ↔ 9 < al.toNat % 16 ∨ s.flags.af = true) ∧ SameControl s.flags t.flags ∧ t.mem = s.mem ∧ t.segs = s.segs ∧ t.ip = s.ip ∧ SameHidden s t ∧
      (¬ ((9 < al.toNat % 16 ∨ s.flags.af = true) ∧ al.toNat < 6) →
        ¬ (0x9A ≤ al.toNat ∧ al.toNat ≤ 0x9F ∧ s.flags.cf = false) →
        t.reg8 .r0 = (if 9 < d1.toNat / 16 ∨ s.flags.cf = true then d1 - 0x60 else d1) ∧
        (t.flags.cf = true ↔ 9 < d1.toNat / 16 ∨ s.flags.cf = true)))

/-- For every two decimal numbers x and y below 100 in packed BCD, where AL after the ADD is not in the range that DAA
leaves open: after ADD AL,ib and DAA, AL is the packed BCD of (x + y) mod 100 and CF is 1 exactly when x + y is 100 or
more. Rules: 41_arithmetic.md R250, R261. The model's own choices that it meets are in log entry 17. -/
def Obligations.DaaGivesDecimalSum : Prop :=
  ∀ (s t : State) (x y : Nat), x < 100 → y < 100 → s.reg8 .r0 = BitVec.ofNat 8 (x / 10 * 16 + x % 10) →
    exec (.addAcc (.ib (BitVec.ofNat 8 (y / 10 * 16 + y % 10)))) s = .next t →
    ¬ ((9 < (t.reg8 .r0).toNat % 16 ∨ t.flags.af = true) ∧ 0xF9 < (t.reg8 .r0).toNat) →
    ∃ u, exec .daa t = .next u ∧ u.reg8 .r0 = BitVec.ofNat 8 ((x + y) % 100 / 10 * 16 + (x + y) % 10) ∧
      (u.flags.cf = true ↔ 100 ≤ x + y)

/-- If the operand can be read, MUL and IMUL answer a next state: the byte forms put the exact product in AX, the word
forms in DX:AX, unsigned for MUL, signed for IMUL; CF and OF are 1 exactly when the product does not fit the lower
half (unsigned, or signed); no other register, no segment register, IP or memory changes. Rules: 41_arithmetic.md
R270, R271. The model's own choices that it meets are in log entry 5. -/
def Obligations.ProductResults : Prop :=
  ∀ (s t : State) (rm : RM),
    (∀ b : Byte, readRM .byte rm s = .ok (b, t) →
      (∃ u, exec (.mul .byte rm) s = .next u ∧ u.regs = { s.regs with ax := u.regs.ax } ∧
        u.regs.ax.toNat = (s.reg8 .r0).toNat * b.toNat ∧ u.flags.cf = u.flags.ofl ∧
        (u.flags.cf = true ↔ 256 ≤ (s.reg8 .r0).toNat * b.toNat) ∧ u.mem = s.mem ∧ u.segs = s.segs ∧ u.ip = s.ip ∧ SameControl s.flags u.flags) ∧
      (∃ u, exec (.imul .byte rm) s = .next u ∧ u.regs = { s.regs with ax := u.regs.ax } ∧
        u.regs.ax.toInt = (s.reg8 .r0).toInt * b.toInt ∧ u.flags.cf = u.flags.ofl ∧
        (u.flags.cf = true ↔ ¬ (-128 ≤ (s.reg8 .r0).toInt * b.toInt ∧ (s.reg8 .r0).toInt * b.toInt < 128)) ∧
        u.mem = s.mem ∧ u.segs = s.segs ∧ u.ip = s.ip ∧ SameControl s.flags u.flags)) ∧
    (∀ v : Word, readRM .word rm s = .ok (v, t) →
      (∃ u, exec (.mul .word rm) s = .next u ∧ u.regs = { s.regs with ax := u.regs.ax, dx := u.regs.dx } ∧
        (u.regs.dx ++ u.regs.ax).toNat = s.regs.ax.toNat * v.toNat ∧ u.flags.cf = u.flags.ofl ∧
        (u.flags.cf = true ↔ 65536 ≤ s.regs.ax.toNat * v.toNat) ∧ u.mem = s.mem ∧ u.segs = s.segs ∧ u.ip = s.ip ∧ SameControl s.flags u.flags) ∧
      (∃ u, exec (.imul .word rm) s = .next u ∧ u.regs = { s.regs with ax := u.regs.ax, dx := u.regs.dx } ∧
        (u.regs.dx ++ u.regs.ax).toInt = s.regs.ax.toInt * v.toInt ∧ u.flags.cf = u.flags.ofl ∧
        (u.flags.cf = true ↔ ¬ (-32768 ≤ s.regs.ax.toInt * v.toInt ∧ s.regs.ax.toInt * v.toInt < 32768)) ∧
        u.mem = s.mem ∧ u.segs = s.segs ∧ u.ip = s.ip ∧ SameControl s.flags u.flags))

/-- If the divisor can be read, is not 0 and the quotient (rounded toward zero) fits, DIV and IDIV answer a next state:
quotient in AL or AX, remainder in AH or DX, n = q*d + r with r smaller than d in absolute value and, for IDIV, r zero
or of the sign of n; no other register, no segment register, IP or memory changes; TF, IF, DF are kept. Rules:
41_arithmetic.md R272, R273. The model's own choices that it meets are in log entry 5. -/
def Obligations.QuotientResults : Prop :=
  ∀ (s t : State) (rm : RM),
    (∀ d : Byte, readRM .byte rm s = .ok (d, t) → d ≠ 0 →
      (s.regs.ax.toNat / d.toNat < 256 → ∃ u, exec (.div .byte rm) s = .next u ∧ u.regs = { s.regs with ax := u.regs.ax } ∧
        s.regs.ax.toNat = (u.reg8 .r0).toNat * d.toNat + (u.reg8 .r4).toNat ∧ (u.reg8 .r4).toNat < d.toNat ∧
        u.mem = s.mem ∧ u.segs = s.segs ∧ u.ip = s.ip ∧ SameControl s.flags u.flags) ∧
      (-127 ≤ s.regs.ax.toInt.tdiv d.toInt ∧ s.regs.ax.toInt.tdiv d.toInt ≤ 127 →
        ∃ u, exec (.idiv .byte rm) s = .next u ∧ u.regs = { s.regs with ax := u.regs.ax } ∧
        s.regs.ax.toInt = (u.reg8 .r0).toInt * d.toInt + (u.reg8 .r4).toInt ∧ (u.reg8 .r4).toInt.natAbs < d.toInt.natAbs ∧
        0 ≤ (u.reg8 .r4).toInt * s.regs.ax.toInt ∧ u.mem = s.mem ∧ u.segs = s.segs ∧ u.ip = s.ip ∧ SameControl s.flags u.flags)) ∧
    (∀ d : Word, readRM .word rm s = .ok (d, t) → d ≠ 0 →
      ((s.regs.dx ++ s.regs.ax).toNat / d.toNat < 65536 →
        ∃ u, exec (.div .word rm) s = .next u ∧ u.regs = { s.regs with ax := u.regs.ax, dx := u.regs.dx } ∧
        (s.regs.dx ++ s.regs.ax).toNat = u.regs.ax.toNat * d.toNat + u.regs.dx.toNat ∧ u.regs.dx.toNat < d.toNat ∧
        u.mem = s.mem ∧ u.segs = s.segs ∧ u.ip = s.ip ∧ SameControl s.flags u.flags) ∧
      (-32767 ≤ (s.regs.dx ++ s.regs.ax).toInt.tdiv d.toInt ∧ (s.regs.dx ++ s.regs.ax).toInt.tdiv d.toInt ≤ 32767 →
        ∃ u, exec (.idiv .word rm) s = .next u ∧ u.regs = { s.regs with ax := u.regs.ax, dx := u.regs.dx } ∧
        (s.regs.dx ++ s.regs.ax).toInt = u.regs.ax.toInt * d.toInt + u.regs.dx.toInt ∧
        u.regs.dx.toInt.natAbs < d.toInt.natAbs ∧ 0 ≤ u.regs.dx.toInt * (s.regs.dx ++ s.regs.ax).toInt ∧
        u.mem = s.mem ∧ u.segs = s.segs ∧ u.ip = s.ip ∧ SameControl s.flags u.flags))

/-- If the divisor can be read and is 0, or the quotient does not fit (for IDIV also -128 or -32768), the outcome is the
interrupt sequence of type 0 from the state after the read, with the six status flags drawn and AX and DX as they
were; the IP it saves is the next instruction or, under DIV_FAULT_IP = faulting, the first byte of this one. The
parameter is next by default at L8086 and faulting at L186 and LX86. Rules: 60_exceptions.md R701, R710,
41_arithmetic.md R272, R273, 00_scope.md R8. The model's own choices that it meets are in log entries 5 and 18. -/
def Obligations.DivideErrorTakesTypeZero : Prop :=
  (∀ (s t : State) (rm : RM) (i : Instr) (err : Prop),
    ((∃ d : Byte, readRM .byte rm s = .ok (d, t) ∧
        (i = .div .byte rm ∧ err = (d = 0 ∨ 256 ≤ s.regs.ax.toNat / d.toNat) ∨
          i = .idiv .byte rm ∧ err = (d = 0 ∨ s.regs.ax.toInt.tdiv d.toInt < -127 ∨ 127 < s.regs.ax.toInt.tdiv d.toInt))) ∨
      (∃ d : Word, readRM .word rm s = .ok (d, t) ∧
        (i = .div .word rm ∧ err = (d = 0 ∨ 65536 ≤ (s.regs.dx ++ s.regs.ax).toNat / d.toNat) ∨
          i = .idiv .word rm ∧ err = (d = 0 ∨ (s.regs.dx ++ s.regs.ax).toInt.tdiv d.toInt < -32767 ∨
            32767 < (s.regs.dx ++ s.regs.ax).toInt.tdiv d.toInt)))) →
    err →
    exec i s = runOp (interrupt 0 (if s.cfg.divFaultIp = .next then s.ip else s.start))
      ((t.setDraws (t.draws + 1)).setFlags (s.flags.statusDrawn (Config.freeValue t.draws)))) ∧
  (Config.ofLevel .l8086).divFaultIp = .next ∧ (Config.ofLevel .l186).divFaultIp = .faulting ∧
  (Config.ofLevel .lx86).divFaultIp = .faulting

/-- If the operand x can be read: each of the seven writes the operand after count one-bit steps, the count being 1, CL,
or CL modulo 32 under SHIFT_COUNT_MASK = mask5, with the flags of R310, whose open bits are a free value drawn only
where a flag is open. Each answers a next state. CL is not changed. Rules: 42_logic_shift_rotate.md R310, R311, R312,
R313, R314, R315, R316, R317. The model's own choices that it meets are in log entry 5. -/
def Obligations.ShiftResults : Prop :=
  ∀ (s t : State) (w : Width) (n : ShiftBy) (rm : RM) (x : BitVec w.bits) (c : Nat), readRM w rm s = .ok (x, t) →
    c = (match n with
      | .one => 1
      | .cl => if s.cfg.countMask = .none then (s.reg8 .r1).toNat else (s.reg8 .r1).toNat % 32) →
    ∀ (k : ShiftKind) (i : Instr),
      (k, i) ∈ [(ShiftKind.rol, Instr.rol w n rm), (.ror, .ror w n rm), (.rcl, .rcl w n rm), (.rcr, .rcr w n rm),
        (.shl, .shl w n rm), (.shr, .shr w n rm), (.sar, .sar w n rm)] →
      (¬ (1 < c ∨ (c = 1 ∧ k.isShift = true)) → exec i s = .next ((t.setFlags
        (s.flags.shifted k c x (k.steps c (x, s.flags.cf)).1 (k.steps c (x, s.flags.cf)).2 0)).writeLoc w (s.locate rm)
          (k.steps c (x, s.flags.cf)).1)) ∧
      (1 < c ∨ (c = 1 ∧ k.isShift = true) → exec i s = .next (((t.setDraws (t.draws + 1)).setFlags
        (s.flags.shifted k c x (k.steps c (x, s.flags.cf)).1 (k.steps c (x, s.flags.cf)).2
          (Config.freeValue t.draws))).writeLoc w (s.locate rm) (k.steps c (x, s.flags.cf)).1))

/-- For every width n of at least 2, operand and count c: the steps of SHL, SHR and SAR give the logical left, logical
right and arithmetic right shift by c, with CF for 1 <= c <= n the last bit shifted out; ROL and ROR give the rotation
by c, with CF for c >= 1 the bit that came round, bit 0 for ROL and the top bit for ROR; RCL and RCR are the rotations
of the n + 1 bits of CF followed by the operand, so by n + 1 they give back both; a count of 0 changes nothing. Rules:
42_logic_shift_rotate.md R310, R311, R312, R313, R314, R315, R316, R317. -/
def Obligations.ShiftClosedForms : Prop :=
  ∀ (n : Nat) (x : BitVec n) (cf : Bool) (c : Nat), 2 ≤ n →
    (ShiftKind.shl.steps c (x, cf)).1 = x <<< c ∧ (ShiftKind.shr.steps c (x, cf)).1 = x >>> c ∧
    (ShiftKind.sar.steps c (x, cf)).1 = x.sshiftRight c ∧
    (1 ≤ c → c ≤ n → (ShiftKind.shl.steps c (x, cf)).2 = x.getLsbD (n - c) ∧
      (ShiftKind.shr.steps c (x, cf)).2 = x.getLsbD (c - 1) ∧ (ShiftKind.sar.steps c (x, cf)).2 = x.getLsbD (c - 1)) ∧
    (ShiftKind.rol.steps c (x, cf)).1 = x.rotateLeft c ∧ (ShiftKind.ror.steps c (x, cf)).1 = x.rotateRight c ∧
    (1 ≤ c → (ShiftKind.rol.steps c (x, cf)).2 = (x.rotateLeft c).getLsbD 0 ∧
      (ShiftKind.ror.steps c (x, cf)).2 = (x.rotateRight c).msb) ∧
    BitVec.ofBool (ShiftKind.rcl.steps c (x, cf)).2 ++ (ShiftKind.rcl.steps c (x, cf)).1 = (BitVec.ofBool cf ++ x).rotateLeft c ∧
    BitVec.ofBool (ShiftKind.rcr.steps c (x, cf)).2 ++ (ShiftKind.rcr.steps c (x, cf)).1 = (BitVec.ofBool cf ++ x).rotateRight c ∧
    ShiftKind.rcl.steps (n + 1) (x, cf) = (x, cf) ∧ ShiftKind.rcr.steps (n + 1) (x, cf) = (x, cf) ∧
    ∀ k : ShiftKind, k.steps 0 (x, cf) = (x, cf)

/-- For every operand and free value u: count 0 leaves all flags; count 1 sets OF to: sign change for SHL, ROL, RCL (top
bit xor CF), top two bits different for ROR, RCR, old top bit for SHR, 0 for SAR; above 1 OF is a bit of u. CF is as
given. Shifts set SF, ZF, PF from the result and AF from u; rotates keep SF, ZF, AF, PF. TF, IF, DF are kept. Rules:
42_logic_shift_rotate.md R310, 10_state.md R44. The model's own choices that it meets are in log entry 5. -/
def Obligations.ShiftFlagsMean : Prop :=
  ∀ (f : Flags) (k : ShiftKind) (c : Nat) (w : Width) (x y : BitVec w.bits) (cf : Bool) (u : Word),
    f.shifted k 0 x y cf u = f ∧
    (0 < c → (f.shifted k c x y cf u).cf = cf ∧ SameControl f (f.shifted k c x y cf u) ∧
      (k.isShift = true → (f.shifted k c x y cf u).sf = y.msb ∧ ((f.shifted k c x y cf u).zf = true ↔ y = 0) ∧
        (f.shifted k c x y cf u).pf = evenParity y ∧ (f.shifted k c x y cf u).af = u.getLsbD 4) ∧
      (k.isShift = false → (f.shifted k c x y cf u).sf = f.sf ∧ (f.shifted k c x y cf u).zf = f.zf ∧
        (f.shifted k c x y cf u).pf = f.pf ∧ (f.shifted k c x y cf u).af = f.af)) ∧
    (1 < c → (f.shifted k c x y cf u).ofl = u.getLsbD 11) ∧
    (∀ k', k' = .rol ∨ k' = .rcl ∨ k' = .shl → (f.shifted k' 1 x y cf u).ofl = (y.msb ^^ cf)) ∧
    (∀ k', k' = .ror ∨ k' = .rcr → (f.shifted k' 1 x y cf u).ofl = (y.getLsbD (w.bits - 1) ^^ y.getLsbD (w.bits - 2))) ∧
    (f.shifted .shr 1 x y cf u).ofl = x.msb ∧ (f.shifted .sar 1 x y cf u).ofl = false

/-- With no repeat prefix and the source elements readable: MOVS, CMPS, SCAS, LODS, STOS, OUTS move, compare, load, store
or output one element at src_seg:SI (DS or the override) and ES:DI and add or subtract its size to SI and DI as DF
says; INS stores what it reads from port DX. CMPS and SCAS set the flags of source, or accumulator, minus destination.
CX is not used. Rules: 43_string.md R330, R331, R332, R333, R334, R335, R340, R341. The model's own choices that it
meets are in log entries 7 and 19. -/
def Obligations.StringElements : Prop :=
  ∀ (s t u : State) (w : Width) (d : Word) (a b : BitVec w.bits), s.pfx.rep = none →
    d = (if s.flags.df then -(BitVec.ofNat 16 w.bytes) else BitVec.ofNat 16 w.bytes) →
    exec (.stos w) s = .next ((s.store w s.segs.es s.regs.di (s.reg w .r0)).setReg16 .r7 (s.regs.di + d)) ∧
    (load w (s.sreg (s.pfx.seg.getD .ds)) s.regs.si s = .ok (a, t) →
      exec (.movs w) s = .next (((t.store w s.segs.es s.regs.di a).setReg16 .r6 (s.regs.si + d)).setReg16 .r7 (s.regs.di + d)) ∧
      exec (.lods w) s = .next ((t.setReg w .r0 a).setReg16 .r6 (s.regs.si + d)) ∧
      exec (.outs w) s = .next ((t.setEvents (.ioWrite s.regs.dx w (portWord w a) :: t.events)).setReg16 .r6 (s.regs.si + d)) ∧
      (load w s.segs.es s.regs.di t = .ok (b, u) → exec (.cmps w) s =
        .next (((u.setFlags (s.flags.sub a b false)).setReg16 .r6 (s.regs.si + d)).setReg16 .r7 (s.regs.di + d)))) ∧
    (load w s.segs.es s.regs.di s = .ok (b, u) → exec (.scas w) s =
      .next ((u.setFlags (s.flags.sub (s.reg w .r0) b false)).setReg16 .r7 (s.regs.di + d))) ∧
    (ioRead w s.regs.dx s = .ok (a, t) → exec (.ins w) s =
      .next ((t.store w s.segs.es s.regs.di a).setReg16 .r7 (s.regs.di + d)))

/-- For a string instruction under a repeat prefix that it takes: with CX = 0 only the repetition is ended; else, if its
one element without the prefix goes on to a state, the repeated instruction goes on to that state with the prefix
kept, CX one less, and the repetition in progress exactly when CX is then not 0 and, for CMPS and SCAS, ZF agrees with
the prefix (1 for F3h, 0 for F2h). One element for each exec, with the repetition in State.repeating, is the model's
choice (R345 allows the whole repetition as one step too). Under F2h the five that do not compare are refused in every
state, and the check on prefixes refuses a repeat prefix before an instruction that is no string instruction. Rules:
43_string.md R345, R346, R347, R348, 30_encoding.md R140. The model's own choices that it meets are in log entries 9,
10 and 22. -/
def Obligations.RepeatedStrings : Prop :=
  (∀ (s t : State) (w : Width) (k : RepKind) (i : Instr), s.pfx.rep = some k → i ∈ [Instr.movs w, .lods w, .stos w, .ins w, .outs w, .cmps w, .scas w] →
    (k = .repne → i = .cmps w ∨ i = .scas w) →
    (s.regs.cx = 0 → exec i s = .next (s.setRepeating none)) ∧
    (s.regs.cx ≠ 0 → exec i (s.setPfx { s.pfx with rep := none }) = .next t →
      exec i s = .next (((t.setPfx s.pfx).setReg16 .r1 (s.regs.cx - 1)).setRepeating
        (if s.regs.cx - 1 ≠ 0 ∧ ((i ≠ .cmps w ∧ i ≠ .scas w) ∨ t.flags.zf = decide (k = .rep)) then some i else none)))) ∧
  (∀ (s : State) (w : Width) (i : Instr),
    (s.pfx.rep = some .repne → i ∈ [Instr.movs w, .lods w, .stos w, .ins w, .outs w] → exec i s = .refused .repneOnNonComparing) ∧
    (s.pfx.rep ≠ none → isString i = false → isPrefix i = false → checkPrefixes i s = .error (.refused .repeatOnNonString)) ∧
    (s.pfx.rep = none ∨ isString i = true ∨ isPrefix i = true → checkPrefixes i s = .ok ()))

/-- From a state in which a repeated STOSB is in progress with n = CX elements left, DF = 0, no boundary trap, no request
and a quiet environment: n steps of the machine reach a state with no repetition, CX = 0, DI n higher, every one of
the n bytes from ES:DI that is RAM holding AL, every other byte of memory, AX, SI and the flags as before. Rules:
43_string.md R330, R335, R345, 60_exceptions.md R720. The model's own choices that it meets are in log entries 6 and
9. -/
def Obligations.RepStosbFillsMemory : Prop :=
  ∀ (s : State) (n : Nat), s.repeating = some (.stos .byte) → s.pfx.rep = some .rep → s.regs.cx.toNat = n → n ≠ 0 →
    s.flags.df = false → s.flags.tf = false → s.halted = false → s.waiting = false → s.intInhibit = false →
    s.nmiLatched = false → s.inputs = [] → (s.boundary = none ∨ s.boundary = some false) →
    ∃ t, Host.Core.run Sys2Proof.core n s = .next t ∧ t.repeating = none ∧ t.regs.cx = 0 ∧
      t.regs.di = s.regs.di + BitVec.ofNat 16 n ∧ t.regs.ax = s.regs.ax ∧ t.regs.si = s.regs.si ∧ t.flags = s.flags ∧
      (∀ j, j < n → kindAt s.cfg.memMap (phys s.segs.es (s.regs.di + BitVec.ofNat 16 j)) = .ram →
        t.byteAt (phys s.segs.es (s.regs.di + BitVec.ofNat 16 j)) = some (s.reg8 .r0)) ∧
      (∀ x, (∀ j, j < n → x ≠ phys s.segs.es (s.regs.di + BitVec.ofNat 16 j)) → t.byteAt x = s.byteAt x)

/-- For every state each answers a next state: the jump, with IP the next instruction plus the sign-extended displacement
modulo 2^16, exactly when the condition of the table holds, and otherwise no change. LOOP, LOOPE and LOOPNE first
decrement CX, which they test after; JCXZ tests CX and does not change it. JMP short goes there always. Rules:
44_control_transfer.md R360, R370, R380, R400, R401, R402, R403. The model's own choices that it meets are in log
entry 16. -/
def Obligations.ConditionalTransfers : Prop :=
  ∀ (s : State) (b : Byte),
    exec (.jo b) s = .next (if s.flags.ofl = true then s.jump (s.ip + b.signExtend 16) else s) ∧
    exec (.jno b) s = .next (if s.flags.ofl = false then s.jump (s.ip + b.signExtend 16) else s) ∧
    exec (.jb b) s = .next (if s.flags.cf = true then s.jump (s.ip + b.signExtend 16) else s) ∧
    exec (.jnb b) s = .next (if s.flags.cf = false then s.jump (s.ip + b.signExtend 16) else s) ∧
    exec (.jz b) s = .next (if s.flags.zf = true then s.jump (s.ip + b.signExtend 16) else s) ∧
    exec (.jnz b) s = .next (if s.flags.zf = false then s.jump (s.ip + b.signExtend 16) else s) ∧
    exec (.jbe b) s = .next (if s.flags.cf = true ∨ s.flags.zf = true then s.jump (s.ip + b.signExtend 16) else s) ∧
    exec (.jnbe b) s = .next (if s.flags.cf = false ∧ s.flags.zf = false then s.jump (s.ip + b.signExtend 16) else s) ∧
    exec (.js b) s = .next (if s.flags.sf = true then s.jump (s.ip + b.signExtend 16) else s) ∧
    exec (.jns b) s = .next (if s.flags.sf = false then s.jump (s.ip + b.signExtend 16) else s) ∧
    exec (.jp b) s = .next (if s.flags.pf = true then s.jump (s.ip + b.signExtend 16) else s) ∧
    exec (.jnp b) s = .next (if s.flags.pf = false then s.jump (s.ip + b.signExtend 16) else s) ∧
    exec (.jl b) s = .next (if s.flags.sf ≠ s.flags.ofl then s.jump (s.ip + b.signExtend 16) else s) ∧
    exec (.jnl b) s = .next (if s.flags.sf = s.flags.ofl then s.jump (s.ip + b.signExtend 16) else s) ∧
    exec (.jle b) s = .next (if s.flags.zf = true ∨ s.flags.sf ≠ s.flags.ofl then s.jump (s.ip + b.signExtend 16) else s) ∧
    exec (.jnle b) s = .next (if s.flags.zf = false ∧ s.flags.sf = s.flags.ofl then s.jump (s.ip + b.signExtend 16) else s) ∧
    exec (.jcxz b) s = .next (if s.regs.cx = 0 then s.jump (s.ip + b.signExtend 16) else s) ∧
    exec (.loop b) s = .next (if s.regs.cx ≠ 1 then (s.setReg16 .r1 (s.regs.cx - 1)).jump (s.ip + b.signExtend 16)
      else s.setReg16 .r1 (s.regs.cx - 1)) ∧
    exec (.loope b) s = .next (if s.regs.cx ≠ 1 ∧ s.flags.zf = true then (s.setReg16 .r1 (s.regs.cx - 1)).jump (s.ip + b.signExtend 16)
      else s.setReg16 .r1 (s.regs.cx - 1)) ∧
    exec (.loopne b) s = .next (if s.regs.cx ≠ 1 ∧ s.flags.zf = false then (s.setReg16 .r1 (s.regs.cx - 1)).jump (s.ip + b.signExtend 16)
      else s.setReg16 .r1 (s.regs.cx - 1)) ∧
    exec (.jmpShort b) s = .next (s.jump (s.ip + b.signExtend 16))

/-- JMP (the short form, R370, among them) and CALL direct forms always answer a next state at the target; the forms
through an r/m word or a far pointer in memory do if it can be read, the target being read before anything is pushed;
CALL pushes IP, and CS before it when far; RET and RETF, if the words at the top can be read, pop IP and then CS and
add their immediate to SP. Rules: 44_control_transfer.md R361, R362, R363, R364, R365, R366, R367, R368, R371, R372,
R373, R374. The model's own choices that it meets are in log entries 16 and 24. -/
def Obligations.JumpsCallsReturns : Prop :=
  ∀ (s t u : State) (b : Byte) (v off seg a c : Word) (rm : RM) (m : MemEA),
    exec (.jmpShort b) s = .next (s.jump (s.ip + b.signExtend 16)) ∧ exec (.jmpNear v) s = .next (s.jump (s.ip + v)) ∧
    exec (.jmpFar off seg) s = .next ((s.setSreg .cs seg).jump off) ∧
    exec (.callNear v) s = .next ((s.push16 s.ip).jump (s.ip + v)) ∧
    exec (.callFar off seg) s = .next ((((s.push16 s.segs.cs).push16 s.ip).setSreg .cs seg).jump off) ∧
    (readRM .word rm s = .ok (a, t) → exec (.jmpRm rm) s = .next (t.jump a) ∧ exec (.callRm rm) s = .next ((t.push16 s.ip).jump a)) ∧
    (readPair m s = .ok ((a, c), t) → exec (.jmpFarMem m) s = .next ((t.setSreg .cs c).jump a) ∧
      exec (.callFarMem m) s = .next ((((t.push16 s.segs.cs).push16 s.ip).setSreg .cs c).jump a)) ∧
    (load .word s.segs.ss s.regs.sp s = .ok (a, t) →
      exec .ret s = .next ((t.jump a).setReg16 .r4 (s.regs.sp + 2)) ∧
      exec (.retImm v) s = .next ((t.jump a).setReg16 .r4 (s.regs.sp + 2 + v)) ∧
      (load .word s.segs.ss (s.regs.sp + 2) (t.setReg16 .r4 (s.regs.sp + 2)) = .ok (c, u) →
        exec .retf s = .next (((u.setSreg .cs c).jump a).setReg16 .r4 (s.regs.sp + 4)) ∧
        exec (.retfImm v) s = .next (((u.setSreg .cs c).jump a).setReg16 .r4 (s.regs.sp + 4 + v))))

/-- With RAM under the stack: after CALL cw, RET from the state it leads to answers a next state with the IP, SP and
general registers of the state before the call; after CALL seg:off, RETF does so with CS as well. Rules:
44_control_transfer.md R361, R363, R365, R367. -/
def Obligations.CallThenReturn : Prop :=
  ∀ (s t : State) (v off seg : Word),
    (s.AllRam (s.pushBytes 1) → exec (.callNear v) s = .next t →
      ∃ u, exec .ret t = .next u ∧ u.ip = s.ip ∧ u.regs = s.regs ∧ u.segs = s.segs ∧ u.flags = s.flags) ∧
    (s.AllRam (s.pushBytes 2) → exec (.callFar off seg) s = .next t →
      ∃ u, exec .retf t = .next u ∧ u.ip = s.ip ∧ u.regs = s.regs ∧ u.segs = s.segs ∧ u.flags = s.flags)

/-- ENTER with level 0 or 1 (modulo 32) always answers the next state of the rule; with a higher level L it does if the
words of the enclosing frames that it copies can be read: where these, at SS:BP-2j for j from 1 to L-1, lie outside
the words pushed, which are RAM, the frame holds old BP at SS:SP-2, the word from SS:BP-2j at SS:SP-2-2j, and its own
address SP-2 at SS:SP-2-2L; BP is SP-2, SP is that less 2L less the size, and nothing else changes. LEAVE answers a
next state if the word at SS:BP can be read. With RAM at the first pushed word, LEAVE after ENTER, at any level, gives
back SP and BP. Rules: 44_control_transfer.md R415, R416. -/
def Obligations.EnterLeave : Prop :=
  ∀ (s t u : State) (v w : Word) (b : Byte) (c : Nat → Word),
    (b.toNat % 32 = 0 → exec (.enter v b) s =
      .next (((s.push16 s.regs.bp).setReg16 .r5 (s.regs.sp - 2)).setReg16 .r4 (s.regs.sp - 2 - v))) ∧
    (b.toNat % 32 = 1 → exec (.enter v b) s =
      .next ((((s.push16 s.regs.bp).push16 (s.regs.sp - 2)).setReg16 .r5 (s.regs.sp - 2)).setReg16 .r4 (s.regs.sp - 4 - v))) ∧
    (2 ≤ b.toNat % 32 → enterCopies (b.toNat % 32 - 1) (s.push16 s.regs.bp) = .ok ((), u) → exec (.enter v b) s =
      .next (((u.push16 (s.regs.sp - 2)).setReg16 .r5 (s.regs.sp - 2)).setReg16 .r4 (u.regs.sp - 2 - v))) ∧
    (2 ≤ b.toNat % 32 → s.AllRam (s.pushBytes (b.toNat % 32 + 1)) →
      (∀ j, 1 ≤ j → j < b.toNat % 32 → s.HoldsWord s.segs.ss (s.regs.bp - BitVec.ofNat 16 (2 * j)) (c j) ∧
        ∀ x ∈ s.accessBytes .word s.segs.ss (s.regs.bp - BitVec.ofNat 16 (2 * j)), x ∉ s.pushBytes (b.toNat % 32 + 1)) →
      ∃ z, exec (.enter v b) s = .next z ∧ z.HoldsWord s.segs.ss (s.regs.sp - 2) s.regs.bp ∧
        (∀ j, 1 ≤ j → j < b.toNat % 32 → z.HoldsWord s.segs.ss (s.regs.sp - 2 - BitVec.ofNat 16 (2 * j)) (c j)) ∧
        z.HoldsWord s.segs.ss (s.regs.sp - 2 - BitVec.ofNat 16 (2 * (b.toNat % 32))) (s.regs.sp - 2) ∧
        z.regs = { s.regs with bp := s.regs.sp - 2, sp := s.regs.sp - 2 - BitVec.ofNat 16 (2 * (b.toNat % 32)) - v } ∧
        z.ip = s.ip ∧ (∀ x, x ∉ s.pushBytes (b.toNat % 32 + 1) → z.byteAt x = s.byteAt x)) ∧
    (load .word s.segs.ss s.regs.bp (s.setReg16 .r4 s.regs.bp) = .ok (w, u) →
      exec .leave s = .next ((u.setReg16 .r4 (s.regs.bp + 2)).setReg16 .r5 w)) ∧
    (s.AllRam (s.pushBytes 1) → exec (.enter v b) s = .next t →
      ∃ z, exec .leave t = .next z ∧ z.regs.sp = s.regs.sp ∧ z.regs.bp = s.regs.bp)

/-- INT n and INT 3 are the interrupt sequence of their type with the next instruction as return address; INTO is that of
type 4 when OF = 1 and changes nothing when OF = 0; BOUND, if its pair can be read, changes nothing when the signed
index lies within the inclusive bounds and else is the sequence of type 5 with its own first byte as return address.
Rules: 60_exceptions.md R702, R704, 44_control_transfer.md R410, R411, R412, R417. The model's own choices that it
meets are in log entry 24. -/
def Obligations.SoftwareInterrupts : Prop :=
  ∀ (s t : State) (b : Byte) (r : RegNum) (m : MemEA) (lo hi : Word),
    exec (.intN b) s = runOp (interrupt b s.ip) s ∧ exec .int3 s = runOp (interrupt 3 s.ip) s ∧
    (s.flags.ofl = true → exec .into s = runOp (interrupt 4 s.ip) s) ∧ (s.flags.ofl = false → exec .into s = .next s) ∧
    (readPair m s = .ok ((lo, hi), t) →
      (lo.toInt ≤ (s.reg16 r).toInt ∧ (s.reg16 r).toInt ≤ hi.toInt → exec (.bound r m) s = .next t ∧ t.ip = s.ip) ∧
      ((s.reg16 r).toInt < lo.toInt ∨ hi.toInt < (s.reg16 r).toInt → exec (.bound r m) s = runOp (interrupt 5 s.start) t))

/-- If memory holds the words ip at 4n and cs at 4n + 2, the sequence of type n goes on, and INT n answers that next
state: CS:IP = cs:ip, SP 6 lower, IF = TF = 0, the other flags, the other registers and segment registers as before,
not halted, not waiting; and where the six bytes below SP are RAM they hold, from SP up, the return IP, CS and the
FLAGS word of before. Every other byte of memory is as before. Rules: 60_exceptions.md R710, R711, R712. The model's
own choices that it meets are in log entry 2. -/
def Obligations.InterruptSequence : Prop :=
  ∀ (s : State) (n : Byte) (ret ip cs : Word), s.HoldsWord 0 (n.setWidth 16 * 4) ip → s.HoldsWord 0 (n.setWidth 16 * 4 + 2) cs →
    ∃ t, runOp (interrupt n ret) s = .next t ∧ (ret = s.ip → exec (.intN n) s = .next t ∧ (n = 3 → exec .int3 s = .next t) ∧
        (n = 4 → s.flags.ofl = true → exec .into s = .next t)) ∧
      t.ip = ip ∧ t.segs = { s.segs with cs := cs } ∧ t.regs = { s.regs with sp := s.regs.sp - 6 } ∧
      t.flags = { s.flags with ifl := false, tf := false } ∧ t.halted = false ∧ t.waiting = false ∧
      (s.AllRam (s.pushBytes 3) → t.HoldsWord s.segs.ss (s.regs.sp - 2) s.flagsWord ∧
        t.HoldsWord s.segs.ss (s.regs.sp - 4) s.segs.cs ∧ t.HoldsWord s.segs.ss (s.regs.sp - 6) ret) ∧
      (∀ x, x ∉ s.pushBytes 3 → t.byteAt x = s.byteAt x)

/-- If memory holds three words at SS:SP, IRET answers the next state with IP, CS and the nine flags from them, SP 6
higher, and no other register changed. With RAM under the stack, IRET from the state that an interrupt sequence leads
to gives CS, the return IP, FLAGS, SP and the general registers of before. Rules: 44_control_transfer.md R413,
60_exceptions.md R730. -/
def Obligations.InterruptReturn : Prop :=
  ∀ (s t : State) (ip cs fl ret : Word) (n : Byte),
    (s.HoldsWord s.segs.ss s.regs.sp ip → s.HoldsWord s.segs.ss (s.regs.sp + 2) cs → s.HoldsWord s.segs.ss (s.regs.sp + 4) fl →
      exec .iret s = .next ((((s.setSreg .cs cs).jump ip).setReg16 .r4 (s.regs.sp + 6)).setFlags
        { cf := fl.getLsbD 0, pf := fl.getLsbD 2, af := fl.getLsbD 4, zf := fl.getLsbD 6, sf := fl.getLsbD 7,
          tf := fl.getLsbD 8, ifl := fl.getLsbD 9, df := fl.getLsbD 10, ofl := fl.getLsbD 11 })) ∧
    (s.AllRam (s.pushBytes 3) → runOp (interrupt n ret) s = .next t →
      ∃ u, exec .iret t = .next u ∧ u.ip = ret ∧ u.segs = s.segs ∧ u.flags = s.flags ∧ u.regs = s.regs)

/-- At every level the bytes F8, F9, F5, FC, FD, FA, FB decode to CLC, STC, CMC, CLD, STD, CLI, STI. For every state each
of the seven answers the next state in which CF, DF or IF is cleared, set or (CMC) complemented and nothing else
changes, but that STI sets int_inhibit. Rules: 45_flag_processor_control.md R430, R431, R433, R434, R435, R436, R437. -/
def Obligations.FlagInstructions : Prop :=
  ∀ (s : State) (lvl : Level) (rest : List Byte),
    decode lvl (0xF8 :: rest) = .ok (.clc, rest) ∧ decode lvl (0xF9 :: rest) = .ok (.stc, rest) ∧
    decode lvl (0xF5 :: rest) = .ok (.cmc, rest) ∧ decode lvl (0xFC :: rest) = .ok (.cld, rest) ∧
    decode lvl (0xFD :: rest) = .ok (.std, rest) ∧ decode lvl (0xFA :: rest) = .ok (.cli, rest) ∧
    decode lvl (0xFB :: rest) = .ok (.sti, rest) ∧
    exec .clc s = .next (s.setFlags { s.flags with cf := false }) ∧ exec .stc s = .next (s.setFlags { s.flags with cf := true }) ∧
    exec .cmc s = .next (s.setFlags { s.flags with cf := !s.flags.cf }) ∧
    exec .cld s = .next (s.setFlags { s.flags with df := false }) ∧ exec .std s = .next (s.setFlags { s.flags with df := true }) ∧
    exec .cli s = .next (s.setFlags { s.flags with ifl := false }) ∧
    exec .sti s = .next ((s.setFlags { s.flags with ifl := true }).setIntInhibit true)

/-- NOP answers the state itself; HLT sets halted; WAIT answers the state itself when TEST is active and sets waiting when
it is not; ESC without a coprocessor answers the state itself for a register and the state after a word read for a
memory operand that can be read; with a coprocessor it is refused. Each prefix byte changes the prefix state only: it
is active and holds the segment, the repeat kind or the LOCK mark, the last of a kind winning. Rules:
45_flag_processor_control.md R440, R441, R442, R443, R444, R445, 30_encoding.md R140, R141. The model's own choices
that it meets are in log entries 10, 28, 30 and 33. -/
def Obligations.ProcessorControl : Prop :=
  ∀ (s t : State) (n l : BitVec 3) (r : RegNum) (m : MemEA) (rm : RM) (v : Word),
    exec .nop s = .next s ∧ exec .hlt s = .next (s.setHalted true) ∧
    (s.lines.test = true → exec .wait s = .next s) ∧ (s.lines.test = false → exec .wait s = .next (s.setWaiting true)) ∧
    (s.cfg.coprocessor = false → exec (.esc n l (.reg r)) s = .next s) ∧
    (s.cfg.coprocessor = false → readRM .word (.mem m) s = .ok (v, t) → exec (.esc n l (.mem m)) s = .next t) ∧
    (s.cfg.coprocessor = true → exec (.esc n l rm) s = .refused .coprocessorPresent) ∧
    exec .overrideEs s = .next (s.setPfx { s.pfx with active := true, seg := some .es }) ∧
    exec .overrideCs s = .next (s.setPfx { s.pfx with active := true, seg := some .cs }) ∧
    exec .overrideSs s = .next (s.setPfx { s.pfx with active := true, seg := some .ss }) ∧
    exec .overrideDs s = .next (s.setPfx { s.pfx with active := true, seg := some .ds }) ∧
    exec .lock s = .next (s.setPfx { s.pfx with active := true, lock := true }) ∧
    exec .rep s = .next (s.setPfx { s.pfx with active := true, rep := some .rep }) ∧
    exec .repne s = .next (s.setPfx { s.pfx with active := true, rep := some .repne })

/-- For every instruction: it has a name in refusalName exactly when its row is of level LX86, and then exec answers the
refusal lx86 with that name in every state: the mnemonic of the opcode table, letter for letter, but for FS:, GS: and
66h, which R601 and R602 name otherwise. If its row is of level L8086 or L186 then exec answers no refusal of that
kind in any state. Rules: 46_x87_escape.md R460, 47_x86_ext_integer_system.md R520, R532, R533, R601, R602, R603,
R604, 48_x86_ext_simd.md R630. The model's own choices that it meets are in log entries 14, 25 and 34. -/
def Obligations.LaterLevelsRefused : Prop :=
  ∀ i : Instr, ((refusalName i).isSome = true ↔ i.level = .lx86) ∧
    (∀ name, refusalName i = some name → ∀ s : State, exec i s = .refused (.lx86 name)) ∧
    (i.level ≠ .lx86 → ∀ (s : State) (name : String), exec i s ≠ .refused (.lx86 name))

/-- For every instruction and state: if exec answers a next state, every general register outside destRegs (destinations,
and SP, CX, SI, DI, BP where the rule updates them) and every segment register outside destSegs keeps its value, and
IP does for every instruction outside transfers (the jumps, calls, returns, loops and interrupts, and DIV and IDIV,
which may raise type 0): prefix bytes and repeated string instructions among them. destRegs, destSegs and transfers
are the lists of Safety.lean. Rules: 10_state.md R33, R35, R38, 60_exceptions.md R710, 70_reset_and_hazards.md R775. -/
def Obligations.RegistersFrame : Prop :=
  ∀ (i : Instr) (s t : State), exec i s = .next t →
    (∀ r, r ∉ destRegs i → t.reg16 r = s.reg16 r) ∧ (∀ n, n ∉ destSegs i → t.sreg n = s.sreg n) ∧
    (transfers i = false → t.ip = s.ip)

/-- For every instruction and state: if exec answers a next state, every byte outside storedBytes (the bytes of the r/m
destination at its effective address, of the words pushed, of the string destination at ES:DI, of the direct address;
none for a form that stores nothing) reads as before. Rules: 20_memory.md R87, R89, R93, R106. -/
def Obligations.MemoryFrame : Prop :=
  ∀ (i : Instr) (s t : State), exec i s = .next t → ∀ x, x ∉ storedBytes s i → t.byteAt x = s.byteAt x

/-- For every instruction and state: if exec answers a next state, the bits of the FLAGS word outside flagMask, which is
the table of R44, are as before. In particular only POPF, IRET and the instructions that take an interrupt can change
TF, and only these, CLI and STI can change IF. Rules: 10_state.md R44. -/
def Obligations.FlagsFrame : Prop :=
  ∀ (i : Instr) (s t : State), exec i s = .next t →
    t.flagsWord &&& ~~~(flagMask i) = s.flagsWord &&& ~~~(flagMask i)

/-- For every instruction and state: if exec answers a next state then the parameters, the lines, the inputs to come, the
NMI latch, start and boundary are as before; and for every instruction outside touchesHidden so are int_inhibit,
halted, waiting, the prefix state and the repetition. The trace only grows, the answers are only taken from the front,
the count of draws does not fall. Unless it uses a port, or a byte that it reads or stores is of a device, it adds no
event and takes no answer; outside mayDraw, and with no byte read of a device or an absent address, it draws nothing.
Outside transfers the bytes kept for the fetch grow only by bytes it stores to; a transfer leaves them as they were
with IP as it was, or discards all. Rules: 10_state.md R57, 60_exceptions.md R721, 20_memory.md R91, R95, R104,
00_scope.md R11. The model's own choices that it meets are in log entries 5, 6, 7, 8, 9, 11 and 16. -/
def Obligations.HiddenFrame : Prop :=
  ∀ (i : Instr) (s t : State), exec i s = .next t →
    t.cfg = s.cfg ∧ t.lines = s.lines ∧ t.inputs = s.inputs ∧ t.nmiLatched = s.nmiLatched ∧ t.start = s.start ∧
    t.boundary = s.boundary ∧ (touchesHidden i = false → SameHidden s t) ∧
    (∃ e, t.events = e ++ s.events) ∧ (∃ a, s.answers = a ++ t.answers) ∧ s.draws ≤ t.draws ∧
    (usesPort i = false → (∀ x ∈ loadedBytes s i ++ storedBytes s i, kindAt s.cfg.memMap x ≠ .device) →
      t.events = s.events ∧ t.answers = s.answers) ∧
    (mayDraw i = false → (∀ x ∈ loadedBytes s i, kindAt s.cfg.memMap x ≠ .device ∧ kindAt s.cfg.memMap x ≠ .absent) →
      t.draws = s.draws) ∧
    (transfers i = false → ∃ l, t.stale = l ++ s.stale ∧ ∀ p ∈ l, p.1 ∈ storedBytes s i) ∧
    (transfers i = true → t.stale = [] ∨ (t.stale = s.stale ∧ t.ip = s.ip))

/-- For every state that is legal, reachable or not: if the step answers next t then t is legal: memory in canonical form,
not both halted and waiting, a repetition only of a string instruction under a repeat prefix with CX not 0, nothing
fetched ahead when PREFETCH_DEPTH is 0, and no prefix kept without an active prefix state. Rules: 20_memory.md R104,
43_string.md R345, 60_exceptions.md R754, 30_encoding.md R140. The model's own choices that it meets are in log
entries 9 and 16. -/
def Obligations.LegalKept : Prop :=
  ∀ s t : State, s.Legal → step s = .next t → t.Legal

/-- State.reset satisfies the invariant that LegalKept says every step keeps. Rules: 10_state.md R60. The model's own
choices that it meets are in log entries 1 and 29. -/
def Obligations.LegalAtReset : Prop :=
  State.reset.Legal

/-- State.reset has CS = FFFFh, IP = 0, DS = ES = SS = 0, the nine flags 0, int_inhibit, halted, waiting clear, no prefix,
no latched NMI, nothing fetched ahead, the default parameters of the level L8086 (which State.reset takes by entry 8),
and its first fetch is at physical FFFF0h. (The general registers, which the model makes 0 by entry 1, are not part of
this.) Rules: 10_state.md R60, 70_reset_and_hazards.md R760, 00_scope.md R8. The model's own choices that it meets are
in log entries 1, 4 and 8. -/
def Obligations.ResetValues : Prop :=
  State.reset.segs = { es := 0, cs := 0xFFFF, ss := 0, ds := 0 } ∧ State.reset.ip = 0 ∧
  State.reset.flags = ⟨false, false, false, false, false, false, false, false, false⟩ ∧ State.reset.intInhibit = false ∧
  State.reset.halted = false ∧ State.reset.waiting = false ∧ State.reset.pfx = .none ∧ State.reset.nmiLatched = false ∧
  State.reset.stale = [] ∧ State.reset.cfg = Config.ofLevel .l8086 ∧ State.reset.codeAddr = 0xFFFF0

/-- For every state whose next sample asserts RESET the step answers a next state with CS:IP = FFFF:0000, DS = ES = SS =
0, flags 0, int_inhibit, halted, waiting, prefix state, repetition, NMI latch and prefetched bytes cleared, and
memory, parameters and the trace as they were. No boundary is due. The general registers hold free values (entry 3).
Rules: 70_reset_and_hazards.md R760, R762, 60_exceptions.md R720. The model's own choices that it meets are in log
entries 3, 4, 6, 11 and 26. -/
def Obligations.ResetLine : Prop :=
  ∀ (s : State) (l : Lines) (rest : List Lines), s.inputs = l :: rest → l.reset = true →
    ∃ t, step s = .next t ∧ t.segs = { es := 0, cs := 0xFFFF, ss := 0, ds := 0 } ∧ t.ip = 0 ∧
      t.flags = ⟨false, false, false, false, false, false, false, false, false⟩ ∧ t.intInhibit = false ∧ t.halted = false ∧
      t.waiting = false ∧ t.pfx = .none ∧ t.repeating = none ∧ t.boundary = none ∧ t.nmiLatched = false ∧ t.stale = [] ∧
      t.mem = s.mem ∧ t.cfg = s.cfg ∧ t.events = s.events ∧ t.inputs = rest

/-- For every state with a boundary due, after a sample without RESET: with int_inhibit the boundary accepts nothing,
int_inhibit is cleared and execution goes on; else a latched NMI takes type 2; else a request with IF = 1 takes the
type its device supplies; else TF of before takes type 1; else execution goes on. If TF was 1 the single step of the
same boundary follows type 2 at once; after the type of a request the boundary stays due with that TF, so that before
the first instruction of its handler the next step takes an NMI latched meanwhile, and the single step after it, so
the handlers run single step, NMI, request. Rules: 60_exceptions.md R706, R720, R721, R722, R723, R725. The model's
own choices that it meets are in log entries 9 and 11. -/
def Obligations.BoundaryOrder : Prop :=
  ∀ (s u : State) (tf : Bool), s.boundary = some tf → s.sample.lines.reset = false → u = s.sample.setBoundary none →
    (u.intInhibit = true → step s = execute (u.setIntInhibit false)) ∧
    (u.intInhibit = false → u.nmiLatched = true →
      (∀ t, interrupt 2 u.resumeIp (u.setNmiLatched false) = .ok ((), t) →
        (tf = false → step s = .next (((t.setPfx .none).setRepeating none).setBoundary none)) ∧
        (∀ v, tf = true → interrupt 1 t.ip (((t.setPfx .none).setRepeating none).setBoundary none) = .ok ((), v) →
          step s = .next v))) ∧
    (u.intInhibit = false → u.nmiLatched = false → u.lines.intr = true → u.flags.ifl = true →
      (∀ t, interrupt u.lines.intrType u.resumeIp u = .ok ((), t) →
        step s = .next (((t.setPfx .none).setRepeating none).setBoundary (some tf)) ∧
        t.flags.ifl = false ∧ t.flags.tf = false ∧ t.intInhibit = false ∧ t.nmiLatched = false)) ∧
    (u.intInhibit = false → u.nmiLatched = false → (u.lines.intr = false ∨ u.flags.ifl = false) →
      (tf = true → ∀ t, interrupt 1 u.resumeIp u = .ok ((), t) →
        step s = .next (((t.setPfx .none).setRepeating none).setBoundary none)) ∧
      (tf = false → step s = execute u))

/-- With no RESET on the sample, and at the boundary no NMI latched, no request or IF = 0, no trap and no shadow: a halted
machine changes nothing but what the sample brings; a waiting machine with TEST inactive likewise; a waiting machine
with TEST active leaves the wait with IP, registers, flags and memory as they were. The resume address is the start of
the instruction while waiting, IP while halted. Rules: 45_flag_processor_control.md R440, R441, 60_exceptions.md R720,
R754. The model's own choices that it meets are in log entries 6, 9, 21 and 35. -/
def Obligations.HoldsPersist : Prop :=
  ∀ (s : State), s.sample.lines.reset = false → s.sample.nmiLatched = false →
    (s.sample.lines.intr = false ∨ s.flags.ifl = false) → s.intInhibit = false → (s.boundary = none ∨ s.boundary = some false) →
    (s.halted = true → step s = .next (s.sample.setBoundary (some false))) ∧
    (s.halted = false → s.waiting = true → s.sample.lines.test = false → step s = .next (s.sample.setBoundary (some false))) ∧
    (s.halted = false → s.waiting = true → s.sample.lines.test = true →
      step s = .next ((s.sample.setWaiting false).setBoundary (some false))) ∧
    (s.waiting = true → s.resumeIp = s.start) ∧ (s.waiting = false → s.repeating = none → s.resumeIp = s.ip)

/-- For every ended state and every number of steps: the run goes on to a state that is ended too, with all registers,
segment registers, IP, flags and memory as they were. This is the end of a run. Rules: 60_exceptions.md R745,
45_flag_processor_control.md R440. The model's own choices that it meets are in log entries 6 and 9. -/
def Obligations.EndedRunsStay : Prop :=
  ∀ (s : State) (n : Nat), s.Ended → ∃ t, Host.Core.run Sys2Proof.core n s = .next t ∧ t.Ended ∧ t.regs = s.regs ∧
    t.segs = s.segs ∧ t.ip = s.ip ∧ t.flags = s.flags ∧ t.mem = s.mem
end

