-- ==== Sys2Proof/Laws/Memory.lean ====
section
/-! SUPPORT. Memory: what a write reads back, what it leaves alone, and that every operation keeps the canonical form. -/
namespace Sys2Proof.Machine

theorem Memory.lookup_insert_same (m : Memory) (x : Nat) (v : Byte) : (m.insert x v).lookup x = some v := by
  induction m with
  | nil => simp [Memory.insert, Memory.lookup]
  | cons c m ih =>
    obtain ⟨a, w⟩ := c
    simp only [Memory.insert]
    split
    · simp [Memory.lookup]
    · split
      · simp [Memory.lookup]
      · rename_i h
        simp [Memory.lookup, Ne.symm h, ih]

theorem Memory.lookup_insert_other (m : Memory) {x y : Nat} (v : Byte) (h : y ≠ x) :
    (m.insert x v).lookup y = m.lookup y := by
  induction m with
  | nil => simp [Memory.insert, Memory.lookup, Ne.symm h]
  | cons c m ih =>
    obtain ⟨a, w⟩ := c
    simp only [Memory.insert]
    split
    · simp [Memory.lookup, Ne.symm h]
    · split
      · rename_i e
        subst e
        simp [Memory.lookup, Ne.symm h]
      · simp [Memory.lookup, ih]

theorem Memory.lookup_erase_same (m : Memory) (x : Nat) : (m.erase x).lookup x = Memory.unlisted := by
  induction m with
  | nil => rfl
  | cons c m ih =>
    obtain ⟨a, w⟩ := c
    by_cases e : a = x
    · simpa [Memory.erase, e] using ih
    · simpa [Memory.erase, Memory.lookup, e] using ih

theorem Memory.lookup_erase_other (m : Memory) {x y : Nat} (h : y ≠ x) : (m.erase x).lookup y = m.lookup y := by
  induction m with
  | nil => rfl
  | cons c m ih =>
    obtain ⟨a, w⟩ := c
    by_cases e : a = x
    · subst e
      simpa [Memory.erase, Memory.lookup, Ne.symm h] using ih
    · by_cases f : a = y
      · simp [Memory.erase, Memory.lookup, f, h]
      · simpa [Memory.erase, Memory.lookup, e, f] using ih

/-- A byte written is the byte read. -/
@[simp] theorem Memory.lookup_write_same (m : Memory) (x : Nat) (v : Byte) : (m.write x v).lookup x = some v := by
  unfold Memory.write
  split
  · rename_i h
    rw [Memory.lookup_erase_same, h]
  · exact Memory.lookup_insert_same m x v

/-- A write leaves every other byte alone. -/
theorem Memory.lookup_write_other (m : Memory) {x y : Nat} (v : Byte) (h : y ≠ x) :
    (m.write x v).lookup y = m.lookup y := by
  unfold Memory.write
  split
  · exact Memory.lookup_erase_other m h
  · exact Memory.lookup_insert_other m v h

/-- Canonical form, said of every cell and of neighbours. -/
theorem Memory.wf_cons {a : Nat} {v : Byte} {m : Memory} :
    Memory.wf ((a, v) :: m) = true ↔
      a < 2 ^ 20 ∧ some v ≠ Memory.unlisted ∧ (∀ c ∈ m.head?, a < c.1) ∧ m.wf = true := by
  cases m with
  | nil => simp [Memory.wf]
  | cons c m =>
    obtain ⟨b, w⟩ := c
    simp [Memory.wf]
    tauto

theorem Memory.head_insert {m : Memory} {x : Nat} {v : Byte} {a : Nat} (h : ∀ c ∈ m.head?, a < c.1) (hx : a < x) :
    ∀ c ∈ (m.insert x v).head?, a < c.1 := by
  cases m with
  | nil => simpa [Memory.insert] using hx
  | cons c m =>
    obtain ⟨b, w⟩ := c
    simp only [Memory.insert]
    split
    · simpa using hx
    · split
      · simpa using hx
      · simpa using h

theorem Memory.wf_insert {m : Memory} (hm : m.wf = true) {x : Nat} (hx : x < 2 ^ 20) {v : Byte}
    (hv : some v ≠ Memory.unlisted) : (m.insert x v).wf = true := by
  induction m with
  | nil => exact Memory.wf_cons.2 ⟨hx, hv, by simp, rfl⟩
  | cons c m ih =>
    obtain ⟨a, w⟩ := c
    have ⟨ha, hw, hh, ht⟩ := Memory.wf_cons.1 hm
    simp only [Memory.insert]
    split
    · exact Memory.wf_cons.2 ⟨hx, hv, by simpa, hm⟩
    · split
      · rename_i e
        exact Memory.wf_cons.2 ⟨hx, hv, by simpa [e] using hh, ht⟩
      · exact Memory.wf_cons.2 ⟨ha, hw, Memory.head_insert hh (by omega), ih ht⟩

theorem Memory.lt_of_wf {m : Memory} {a : Nat} {v : Byte} (h : Memory.wf ((a, v) :: m) = true) :
    ∀ c ∈ m, a < c.1 := by
  induction m generalizing a v with
  | nil => simp
  | cons c m ih =>
    obtain ⟨b, w⟩ := c
    have ⟨_, _, hh, ht⟩ := Memory.wf_cons.1 h
    have hab : a < b := hh (b, w) (by simp)
    intro d hd
    rcases List.mem_cons.1 hd with rfl | hd
    · exact hab
    · exact lt_trans hab (ih ht d hd)

theorem Memory.wf_erase {m : Memory} (hm : m.wf = true) (x : Nat) : (m.erase x).wf = true := by
  induction m with
  | nil => rfl
  | cons c m ih =>
    obtain ⟨a, w⟩ := c
    have ⟨ha, hw, _, ht⟩ := Memory.wf_cons.1 hm
    have hlt := Memory.lt_of_wf hm
    by_cases e : a = x
    · simpa [Memory.erase, e] using ih ht
    · have : Memory.erase ((a, w) :: m) x = (a, w) :: Memory.erase m x := by simp [Memory.erase, e]
      rw [this]
      refine Memory.wf_cons.2 ⟨ha, hw, ?_, ih ht⟩
      intro c hc
      exact hlt c (List.mem_filter.1 (List.mem_of_mem_head? hc)).1

/-- Every write keeps the canonical form. -/
theorem Memory.wf_write {m : Memory} (hm : m.wf = true) {x : Nat} (hx : x < 2 ^ 20) (v : Byte) :
    (m.write x v).wf = true := by
  unfold Memory.write
  split
  · exact Memory.wf_erase hm x
  · rename_i h
    exact Memory.wf_insert hm hx h

/-- The memory after reset is in canonical form. -/
theorem reset_mem_wf : Memory.wf State.reset.mem = true := rfl

theorem phys_lt (seg off : Word) : phys seg off < 2 ^ 20 := Nat.mod_lt _ (by decide)

theorem byteAddr_lt (wrap : SegWrap) (seg off : Word) (i : Nat) : byteAddr wrap seg off i < 2 ^ 20 := by
  cases wrap
  · exact phys_lt _ _
  · exact Nat.mod_lt _ (by decide)

end Sys2Proof.Machine
end

