-- ==== Sys2Proof/Laws/State.lean ====
section
/-! SUPPORT. One lemma per field per update of `State`, each true by `rfl`. -/
namespace Sys2Proof.Machine

@[simp] theorem State.setRegs_regs (s : State) (v : Regs) : (s.setRegs v).regs = v := rfl
@[simp] theorem State.setRegs_segs (s : State) (v : Regs) : (s.setRegs v).segs = s.segs := rfl
@[simp] theorem State.setRegs_ip (s : State) (v : Regs) : (s.setRegs v).ip = s.ip := rfl
@[simp] theorem State.setRegs_flags (s : State) (v : Regs) : (s.setRegs v).flags = s.flags := rfl
@[simp] theorem State.setRegs_intInhibit (s : State) (v : Regs) : (s.setRegs v).intInhibit = s.intInhibit := rfl
@[simp] theorem State.setRegs_halted (s : State) (v : Regs) : (s.setRegs v).halted = s.halted := rfl
@[simp] theorem State.setRegs_waiting (s : State) (v : Regs) : (s.setRegs v).waiting = s.waiting := rfl
@[simp] theorem State.setRegs_pfx (s : State) (v : Regs) : (s.setRegs v).pfx = s.pfx := rfl
@[simp] theorem State.setRegs_start (s : State) (v : Regs) : (s.setRegs v).start = s.start := rfl
@[simp] theorem State.setRegs_repeating (s : State) (v : Regs) : (s.setRegs v).repeating = s.repeating := rfl
@[simp] theorem State.setRegs_boundary (s : State) (v : Regs) : (s.setRegs v).boundary = s.boundary := rfl
@[simp] theorem State.setRegs_nmiLatched (s : State) (v : Regs) : (s.setRegs v).nmiLatched = s.nmiLatched := rfl
@[simp] theorem State.setRegs_lines (s : State) (v : Regs) : (s.setRegs v).lines = s.lines := rfl
@[simp] theorem State.setRegs_inputs (s : State) (v : Regs) : (s.setRegs v).inputs = s.inputs := rfl
@[simp] theorem State.setRegs_answers (s : State) (v : Regs) : (s.setRegs v).answers = s.answers := rfl
@[simp] theorem State.setRegs_events (s : State) (v : Regs) : (s.setRegs v).events = s.events := rfl
@[simp] theorem State.setRegs_stale (s : State) (v : Regs) : (s.setRegs v).stale = s.stale := rfl
@[simp] theorem State.setRegs_draws (s : State) (v : Regs) : (s.setRegs v).draws = s.draws := rfl
@[simp] theorem State.setRegs_cfg (s : State) (v : Regs) : (s.setRegs v).cfg = s.cfg := rfl
@[simp] theorem State.setRegs_mem (s : State) (v : Regs) : (s.setRegs v).mem = s.mem := rfl
@[simp] theorem State.setSegs_regs (s : State) (v : Segs) : (s.setSegs v).regs = s.regs := rfl
@[simp] theorem State.setSegs_segs (s : State) (v : Segs) : (s.setSegs v).segs = v := rfl
@[simp] theorem State.setSegs_ip (s : State) (v : Segs) : (s.setSegs v).ip = s.ip := rfl
@[simp] theorem State.setSegs_flags (s : State) (v : Segs) : (s.setSegs v).flags = s.flags := rfl
@[simp] theorem State.setSegs_intInhibit (s : State) (v : Segs) : (s.setSegs v).intInhibit = s.intInhibit := rfl
@[simp] theorem State.setSegs_halted (s : State) (v : Segs) : (s.setSegs v).halted = s.halted := rfl
@[simp] theorem State.setSegs_waiting (s : State) (v : Segs) : (s.setSegs v).waiting = s.waiting := rfl
@[simp] theorem State.setSegs_pfx (s : State) (v : Segs) : (s.setSegs v).pfx = s.pfx := rfl
@[simp] theorem State.setSegs_start (s : State) (v : Segs) : (s.setSegs v).start = s.start := rfl
@[simp] theorem State.setSegs_repeating (s : State) (v : Segs) : (s.setSegs v).repeating = s.repeating := rfl
@[simp] theorem State.setSegs_boundary (s : State) (v : Segs) : (s.setSegs v).boundary = s.boundary := rfl
@[simp] theorem State.setSegs_nmiLatched (s : State) (v : Segs) : (s.setSegs v).nmiLatched = s.nmiLatched := rfl
@[simp] theorem State.setSegs_lines (s : State) (v : Segs) : (s.setSegs v).lines = s.lines := rfl
@[simp] theorem State.setSegs_inputs (s : State) (v : Segs) : (s.setSegs v).inputs = s.inputs := rfl
@[simp] theorem State.setSegs_answers (s : State) (v : Segs) : (s.setSegs v).answers = s.answers := rfl
@[simp] theorem State.setSegs_events (s : State) (v : Segs) : (s.setSegs v).events = s.events := rfl
@[simp] theorem State.setSegs_stale (s : State) (v : Segs) : (s.setSegs v).stale = s.stale := rfl
@[simp] theorem State.setSegs_draws (s : State) (v : Segs) : (s.setSegs v).draws = s.draws := rfl
@[simp] theorem State.setSegs_cfg (s : State) (v : Segs) : (s.setSegs v).cfg = s.cfg := rfl
@[simp] theorem State.setSegs_mem (s : State) (v : Segs) : (s.setSegs v).mem = s.mem := rfl
@[simp] theorem State.setIp_regs (s : State) (v : Word) : (s.setIp v).regs = s.regs := rfl
@[simp] theorem State.setIp_segs (s : State) (v : Word) : (s.setIp v).segs = s.segs := rfl
@[simp] theorem State.setIp_ip (s : State) (v : Word) : (s.setIp v).ip = v := rfl
@[simp] theorem State.setIp_flags (s : State) (v : Word) : (s.setIp v).flags = s.flags := rfl
@[simp] theorem State.setIp_intInhibit (s : State) (v : Word) : (s.setIp v).intInhibit = s.intInhibit := rfl
@[simp] theorem State.setIp_halted (s : State) (v : Word) : (s.setIp v).halted = s.halted := rfl
@[simp] theorem State.setIp_waiting (s : State) (v : Word) : (s.setIp v).waiting = s.waiting := rfl
@[simp] theorem State.setIp_pfx (s : State) (v : Word) : (s.setIp v).pfx = s.pfx := rfl
@[simp] theorem State.setIp_start (s : State) (v : Word) : (s.setIp v).start = s.start := rfl
@[simp] theorem State.setIp_repeating (s : State) (v : Word) : (s.setIp v).repeating = s.repeating := rfl
@[simp] theorem State.setIp_boundary (s : State) (v : Word) : (s.setIp v).boundary = s.boundary := rfl
@[simp] theorem State.setIp_nmiLatched (s : State) (v : Word) : (s.setIp v).nmiLatched = s.nmiLatched := rfl
@[simp] theorem State.setIp_lines (s : State) (v : Word) : (s.setIp v).lines = s.lines := rfl
@[simp] theorem State.setIp_inputs (s : State) (v : Word) : (s.setIp v).inputs = s.inputs := rfl
@[simp] theorem State.setIp_answers (s : State) (v : Word) : (s.setIp v).answers = s.answers := rfl
@[simp] theorem State.setIp_events (s : State) (v : Word) : (s.setIp v).events = s.events := rfl
@[simp] theorem State.setIp_stale (s : State) (v : Word) : (s.setIp v).stale = s.stale := rfl
@[simp] theorem State.setIp_draws (s : State) (v : Word) : (s.setIp v).draws = s.draws := rfl
@[simp] theorem State.setIp_cfg (s : State) (v : Word) : (s.setIp v).cfg = s.cfg := rfl
@[simp] theorem State.setIp_mem (s : State) (v : Word) : (s.setIp v).mem = s.mem := rfl
@[simp] theorem State.setFlags_regs (s : State) (v : Flags) : (s.setFlags v).regs = s.regs := rfl
@[simp] theorem State.setFlags_segs (s : State) (v : Flags) : (s.setFlags v).segs = s.segs := rfl
@[simp] theorem State.setFlags_ip (s : State) (v : Flags) : (s.setFlags v).ip = s.ip := rfl
@[simp] theorem State.setFlags_flags (s : State) (v : Flags) : (s.setFlags v).flags = v := rfl
@[simp] theorem State.setFlags_intInhibit (s : State) (v : Flags) : (s.setFlags v).intInhibit = s.intInhibit := rfl
@[simp] theorem State.setFlags_halted (s : State) (v : Flags) : (s.setFlags v).halted = s.halted := rfl
@[simp] theorem State.setFlags_waiting (s : State) (v : Flags) : (s.setFlags v).waiting = s.waiting := rfl
@[simp] theorem State.setFlags_pfx (s : State) (v : Flags) : (s.setFlags v).pfx = s.pfx := rfl
@[simp] theorem State.setFlags_start (s : State) (v : Flags) : (s.setFlags v).start = s.start := rfl
@[simp] theorem State.setFlags_repeating (s : State) (v : Flags) : (s.setFlags v).repeating = s.repeating := rfl
@[simp] theorem State.setFlags_boundary (s : State) (v : Flags) : (s.setFlags v).boundary = s.boundary := rfl
@[simp] theorem State.setFlags_nmiLatched (s : State) (v : Flags) : (s.setFlags v).nmiLatched = s.nmiLatched := rfl
@[simp] theorem State.setFlags_lines (s : State) (v : Flags) : (s.setFlags v).lines = s.lines := rfl
@[simp] theorem State.setFlags_inputs (s : State) (v : Flags) : (s.setFlags v).inputs = s.inputs := rfl
@[simp] theorem State.setFlags_answers (s : State) (v : Flags) : (s.setFlags v).answers = s.answers := rfl
@[simp] theorem State.setFlags_events (s : State) (v : Flags) : (s.setFlags v).events = s.events := rfl
@[simp] theorem State.setFlags_stale (s : State) (v : Flags) : (s.setFlags v).stale = s.stale := rfl
@[simp] theorem State.setFlags_draws (s : State) (v : Flags) : (s.setFlags v).draws = s.draws := rfl
@[simp] theorem State.setFlags_cfg (s : State) (v : Flags) : (s.setFlags v).cfg = s.cfg := rfl
@[simp] theorem State.setFlags_mem (s : State) (v : Flags) : (s.setFlags v).mem = s.mem := rfl
@[simp] theorem State.setIntInhibit_regs (s : State) (v : Bool) : (s.setIntInhibit v).regs = s.regs := rfl
@[simp] theorem State.setIntInhibit_segs (s : State) (v : Bool) : (s.setIntInhibit v).segs = s.segs := rfl
@[simp] theorem State.setIntInhibit_ip (s : State) (v : Bool) : (s.setIntInhibit v).ip = s.ip := rfl
@[simp] theorem State.setIntInhibit_flags (s : State) (v : Bool) : (s.setIntInhibit v).flags = s.flags := rfl
@[simp] theorem State.setIntInhibit_intInhibit (s : State) (v : Bool) : (s.setIntInhibit v).intInhibit = v := rfl
@[simp] theorem State.setIntInhibit_halted (s : State) (v : Bool) : (s.setIntInhibit v).halted = s.halted := rfl
@[simp] theorem State.setIntInhibit_waiting (s : State) (v : Bool) : (s.setIntInhibit v).waiting = s.waiting := rfl
@[simp] theorem State.setIntInhibit_pfx (s : State) (v : Bool) : (s.setIntInhibit v).pfx = s.pfx := rfl
@[simp] theorem State.setIntInhibit_start (s : State) (v : Bool) : (s.setIntInhibit v).start = s.start := rfl
@[simp] theorem State.setIntInhibit_repeating (s : State) (v : Bool) : (s.setIntInhibit v).repeating = s.repeating := rfl
@[simp] theorem State.setIntInhibit_boundary (s : State) (v : Bool) : (s.setIntInhibit v).boundary = s.boundary := rfl
@[simp] theorem State.setIntInhibit_nmiLatched (s : State) (v : Bool) : (s.setIntInhibit v).nmiLatched = s.nmiLatched := rfl
@[simp] theorem State.setIntInhibit_lines (s : State) (v : Bool) : (s.setIntInhibit v).lines = s.lines := rfl
@[simp] theorem State.setIntInhibit_inputs (s : State) (v : Bool) : (s.setIntInhibit v).inputs = s.inputs := rfl
@[simp] theorem State.setIntInhibit_answers (s : State) (v : Bool) : (s.setIntInhibit v).answers = s.answers := rfl
@[simp] theorem State.setIntInhibit_events (s : State) (v : Bool) : (s.setIntInhibit v).events = s.events := rfl
@[simp] theorem State.setIntInhibit_stale (s : State) (v : Bool) : (s.setIntInhibit v).stale = s.stale := rfl
@[simp] theorem State.setIntInhibit_draws (s : State) (v : Bool) : (s.setIntInhibit v).draws = s.draws := rfl
@[simp] theorem State.setIntInhibit_cfg (s : State) (v : Bool) : (s.setIntInhibit v).cfg = s.cfg := rfl
@[simp] theorem State.setIntInhibit_mem (s : State) (v : Bool) : (s.setIntInhibit v).mem = s.mem := rfl
@[simp] theorem State.setHalted_regs (s : State) (v : Bool) : (s.setHalted v).regs = s.regs := rfl
@[simp] theorem State.setHalted_segs (s : State) (v : Bool) : (s.setHalted v).segs = s.segs := rfl
@[simp] theorem State.setHalted_ip (s : State) (v : Bool) : (s.setHalted v).ip = s.ip := rfl
@[simp] theorem State.setHalted_flags (s : State) (v : Bool) : (s.setHalted v).flags = s.flags := rfl
@[simp] theorem State.setHalted_intInhibit (s : State) (v : Bool) : (s.setHalted v).intInhibit = s.intInhibit := rfl
@[simp] theorem State.setHalted_halted (s : State) (v : Bool) : (s.setHalted v).halted = v := rfl
@[simp] theorem State.setHalted_waiting (s : State) (v : Bool) : (s.setHalted v).waiting = s.waiting := rfl
@[simp] theorem State.setHalted_pfx (s : State) (v : Bool) : (s.setHalted v).pfx = s.pfx := rfl
@[simp] theorem State.setHalted_start (s : State) (v : Bool) : (s.setHalted v).start = s.start := rfl
@[simp] theorem State.setHalted_repeating (s : State) (v : Bool) : (s.setHalted v).repeating = s.repeating := rfl
@[simp] theorem State.setHalted_boundary (s : State) (v : Bool) : (s.setHalted v).boundary = s.boundary := rfl
@[simp] theorem State.setHalted_nmiLatched (s : State) (v : Bool) : (s.setHalted v).nmiLatched = s.nmiLatched := rfl
@[simp] theorem State.setHalted_lines (s : State) (v : Bool) : (s.setHalted v).lines = s.lines := rfl
@[simp] theorem State.setHalted_inputs (s : State) (v : Bool) : (s.setHalted v).inputs = s.inputs := rfl
@[simp] theorem State.setHalted_answers (s : State) (v : Bool) : (s.setHalted v).answers = s.answers := rfl
@[simp] theorem State.setHalted_events (s : State) (v : Bool) : (s.setHalted v).events = s.events := rfl
@[simp] theorem State.setHalted_stale (s : State) (v : Bool) : (s.setHalted v).stale = s.stale := rfl
@[simp] theorem State.setHalted_draws (s : State) (v : Bool) : (s.setHalted v).draws = s.draws := rfl
@[simp] theorem State.setHalted_cfg (s : State) (v : Bool) : (s.setHalted v).cfg = s.cfg := rfl
@[simp] theorem State.setHalted_mem (s : State) (v : Bool) : (s.setHalted v).mem = s.mem := rfl
@[simp] theorem State.setWaiting_regs (s : State) (v : Bool) : (s.setWaiting v).regs = s.regs := rfl
@[simp] theorem State.setWaiting_segs (s : State) (v : Bool) : (s.setWaiting v).segs = s.segs := rfl
@[simp] theorem State.setWaiting_ip (s : State) (v : Bool) : (s.setWaiting v).ip = s.ip := rfl
@[simp] theorem State.setWaiting_flags (s : State) (v : Bool) : (s.setWaiting v).flags = s.flags := rfl
@[simp] theorem State.setWaiting_intInhibit (s : State) (v : Bool) : (s.setWaiting v).intInhibit = s.intInhibit := rfl
@[simp] theorem State.setWaiting_halted (s : State) (v : Bool) : (s.setWaiting v).halted = s.halted := rfl
@[simp] theorem State.setWaiting_waiting (s : State) (v : Bool) : (s.setWaiting v).waiting = v := rfl
@[simp] theorem State.setWaiting_pfx (s : State) (v : Bool) : (s.setWaiting v).pfx = s.pfx := rfl
@[simp] theorem State.setWaiting_start (s : State) (v : Bool) : (s.setWaiting v).start = s.start := rfl
@[simp] theorem State.setWaiting_repeating (s : State) (v : Bool) : (s.setWaiting v).repeating = s.repeating := rfl
@[simp] theorem State.setWaiting_boundary (s : State) (v : Bool) : (s.setWaiting v).boundary = s.boundary := rfl
@[simp] theorem State.setWaiting_nmiLatched (s : State) (v : Bool) : (s.setWaiting v).nmiLatched = s.nmiLatched := rfl
@[simp] theorem State.setWaiting_lines (s : State) (v : Bool) : (s.setWaiting v).lines = s.lines := rfl
@[simp] theorem State.setWaiting_inputs (s : State) (v : Bool) : (s.setWaiting v).inputs = s.inputs := rfl
@[simp] theorem State.setWaiting_answers (s : State) (v : Bool) : (s.setWaiting v).answers = s.answers := rfl
@[simp] theorem State.setWaiting_events (s : State) (v : Bool) : (s.setWaiting v).events = s.events := rfl
@[simp] theorem State.setWaiting_stale (s : State) (v : Bool) : (s.setWaiting v).stale = s.stale := rfl
@[simp] theorem State.setWaiting_draws (s : State) (v : Bool) : (s.setWaiting v).draws = s.draws := rfl
@[simp] theorem State.setWaiting_cfg (s : State) (v : Bool) : (s.setWaiting v).cfg = s.cfg := rfl
@[simp] theorem State.setWaiting_mem (s : State) (v : Bool) : (s.setWaiting v).mem = s.mem := rfl
@[simp] theorem State.setPfx_regs (s : State) (v : Prefixes) : (s.setPfx v).regs = s.regs := rfl
@[simp] theorem State.setPfx_segs (s : State) (v : Prefixes) : (s.setPfx v).segs = s.segs := rfl
@[simp] theorem State.setPfx_ip (s : State) (v : Prefixes) : (s.setPfx v).ip = s.ip := rfl
@[simp] theorem State.setPfx_flags (s : State) (v : Prefixes) : (s.setPfx v).flags = s.flags := rfl
@[simp] theorem State.setPfx_intInhibit (s : State) (v : Prefixes) : (s.setPfx v).intInhibit = s.intInhibit := rfl
@[simp] theorem State.setPfx_halted (s : State) (v : Prefixes) : (s.setPfx v).halted = s.halted := rfl
@[simp] theorem State.setPfx_waiting (s : State) (v : Prefixes) : (s.setPfx v).waiting = s.waiting := rfl
@[simp] theorem State.setPfx_pfx (s : State) (v : Prefixes) : (s.setPfx v).pfx = v := rfl
@[simp] theorem State.setPfx_start (s : State) (v : Prefixes) : (s.setPfx v).start = s.start := rfl
@[simp] theorem State.setPfx_repeating (s : State) (v : Prefixes) : (s.setPfx v).repeating = s.repeating := rfl
@[simp] theorem State.setPfx_boundary (s : State) (v : Prefixes) : (s.setPfx v).boundary = s.boundary := rfl
@[simp] theorem State.setPfx_nmiLatched (s : State) (v : Prefixes) : (s.setPfx v).nmiLatched = s.nmiLatched := rfl
@[simp] theorem State.setPfx_lines (s : State) (v : Prefixes) : (s.setPfx v).lines = s.lines := rfl
@[simp] theorem State.setPfx_inputs (s : State) (v : Prefixes) : (s.setPfx v).inputs = s.inputs := rfl
@[simp] theorem State.setPfx_answers (s : State) (v : Prefixes) : (s.setPfx v).answers = s.answers := rfl
@[simp] theorem State.setPfx_events (s : State) (v : Prefixes) : (s.setPfx v).events = s.events := rfl
@[simp] theorem State.setPfx_stale (s : State) (v : Prefixes) : (s.setPfx v).stale = s.stale := rfl
@[simp] theorem State.setPfx_draws (s : State) (v : Prefixes) : (s.setPfx v).draws = s.draws := rfl
@[simp] theorem State.setPfx_cfg (s : State) (v : Prefixes) : (s.setPfx v).cfg = s.cfg := rfl
@[simp] theorem State.setPfx_mem (s : State) (v : Prefixes) : (s.setPfx v).mem = s.mem := rfl
@[simp] theorem State.setStart_regs (s : State) (v : Word) : (s.setStart v).regs = s.regs := rfl
@[simp] theorem State.setStart_segs (s : State) (v : Word) : (s.setStart v).segs = s.segs := rfl
@[simp] theorem State.setStart_ip (s : State) (v : Word) : (s.setStart v).ip = s.ip := rfl
@[simp] theorem State.setStart_flags (s : State) (v : Word) : (s.setStart v).flags = s.flags := rfl
@[simp] theorem State.setStart_intInhibit (s : State) (v : Word) : (s.setStart v).intInhibit = s.intInhibit := rfl
@[simp] theorem State.setStart_halted (s : State) (v : Word) : (s.setStart v).halted = s.halted := rfl
@[simp] theorem State.setStart_waiting (s : State) (v : Word) : (s.setStart v).waiting = s.waiting := rfl
@[simp] theorem State.setStart_pfx (s : State) (v : Word) : (s.setStart v).pfx = s.pfx := rfl
@[simp] theorem State.setStart_start (s : State) (v : Word) : (s.setStart v).start = v := rfl
@[simp] theorem State.setStart_repeating (s : State) (v : Word) : (s.setStart v).repeating = s.repeating := rfl
@[simp] theorem State.setStart_boundary (s : State) (v : Word) : (s.setStart v).boundary = s.boundary := rfl
@[simp] theorem State.setStart_nmiLatched (s : State) (v : Word) : (s.setStart v).nmiLatched = s.nmiLatched := rfl
@[simp] theorem State.setStart_lines (s : State) (v : Word) : (s.setStart v).lines = s.lines := rfl
@[simp] theorem State.setStart_inputs (s : State) (v : Word) : (s.setStart v).inputs = s.inputs := rfl
@[simp] theorem State.setStart_answers (s : State) (v : Word) : (s.setStart v).answers = s.answers := rfl
@[simp] theorem State.setStart_events (s : State) (v : Word) : (s.setStart v).events = s.events := rfl
@[simp] theorem State.setStart_stale (s : State) (v : Word) : (s.setStart v).stale = s.stale := rfl
@[simp] theorem State.setStart_draws (s : State) (v : Word) : (s.setStart v).draws = s.draws := rfl
@[simp] theorem State.setStart_cfg (s : State) (v : Word) : (s.setStart v).cfg = s.cfg := rfl
@[simp] theorem State.setStart_mem (s : State) (v : Word) : (s.setStart v).mem = s.mem := rfl
@[simp] theorem State.setRepeating_regs (s : State) (v : Option Instr) : (s.setRepeating v).regs = s.regs := rfl
@[simp] theorem State.setRepeating_segs (s : State) (v : Option Instr) : (s.setRepeating v).segs = s.segs := rfl
@[simp] theorem State.setRepeating_ip (s : State) (v : Option Instr) : (s.setRepeating v).ip = s.ip := rfl
@[simp] theorem State.setRepeating_flags (s : State) (v : Option Instr) : (s.setRepeating v).flags = s.flags := rfl
@[simp] theorem State.setRepeating_intInhibit (s : State) (v : Option Instr) : (s.setRepeating v).intInhibit = s.intInhibit := rfl
@[simp] theorem State.setRepeating_halted (s : State) (v : Option Instr) : (s.setRepeating v).halted = s.halted := rfl
@[simp] theorem State.setRepeating_waiting (s : State) (v : Option Instr) : (s.setRepeating v).waiting = s.waiting := rfl
@[simp] theorem State.setRepeating_pfx (s : State) (v : Option Instr) : (s.setRepeating v).pfx = s.pfx := rfl
@[simp] theorem State.setRepeating_start (s : State) (v : Option Instr) : (s.setRepeating v).start = s.start := rfl
@[simp] theorem State.setRepeating_repeating (s : State) (v : Option Instr) : (s.setRepeating v).repeating = v := rfl
@[simp] theorem State.setRepeating_boundary (s : State) (v : Option Instr) : (s.setRepeating v).boundary = s.boundary := rfl
@[simp] theorem State.setRepeating_nmiLatched (s : State) (v : Option Instr) : (s.setRepeating v).nmiLatched = s.nmiLatched := rfl
@[simp] theorem State.setRepeating_lines (s : State) (v : Option Instr) : (s.setRepeating v).lines = s.lines := rfl
@[simp] theorem State.setRepeating_inputs (s : State) (v : Option Instr) : (s.setRepeating v).inputs = s.inputs := rfl
@[simp] theorem State.setRepeating_answers (s : State) (v : Option Instr) : (s.setRepeating v).answers = s.answers := rfl
@[simp] theorem State.setRepeating_events (s : State) (v : Option Instr) : (s.setRepeating v).events = s.events := rfl
@[simp] theorem State.setRepeating_stale (s : State) (v : Option Instr) : (s.setRepeating v).stale = s.stale := rfl
@[simp] theorem State.setRepeating_draws (s : State) (v : Option Instr) : (s.setRepeating v).draws = s.draws := rfl
@[simp] theorem State.setRepeating_cfg (s : State) (v : Option Instr) : (s.setRepeating v).cfg = s.cfg := rfl
@[simp] theorem State.setRepeating_mem (s : State) (v : Option Instr) : (s.setRepeating v).mem = s.mem := rfl
@[simp] theorem State.setBoundary_regs (s : State) (v : Option Bool) : (s.setBoundary v).regs = s.regs := rfl
@[simp] theorem State.setBoundary_segs (s : State) (v : Option Bool) : (s.setBoundary v).segs = s.segs := rfl
@[simp] theorem State.setBoundary_ip (s : State) (v : Option Bool) : (s.setBoundary v).ip = s.ip := rfl
@[simp] theorem State.setBoundary_flags (s : State) (v : Option Bool) : (s.setBoundary v).flags = s.flags := rfl
@[simp] theorem State.setBoundary_intInhibit (s : State) (v : Option Bool) : (s.setBoundary v).intInhibit = s.intInhibit := rfl
@[simp] theorem State.setBoundary_halted (s : State) (v : Option Bool) : (s.setBoundary v).halted = s.halted := rfl
@[simp] theorem State.setBoundary_waiting (s : State) (v : Option Bool) : (s.setBoundary v).waiting = s.waiting := rfl
@[simp] theorem State.setBoundary_pfx (s : State) (v : Option Bool) : (s.setBoundary v).pfx = s.pfx := rfl
@[simp] theorem State.setBoundary_start (s : State) (v : Option Bool) : (s.setBoundary v).start = s.start := rfl
@[simp] theorem State.setBoundary_repeating (s : State) (v : Option Bool) : (s.setBoundary v).repeating = s.repeating := rfl
@[simp] theorem State.setBoundary_boundary (s : State) (v : Option Bool) : (s.setBoundary v).boundary = v := rfl
@[simp] theorem State.setBoundary_nmiLatched (s : State) (v : Option Bool) : (s.setBoundary v).nmiLatched = s.nmiLatched := rfl
@[simp] theorem State.setBoundary_lines (s : State) (v : Option Bool) : (s.setBoundary v).lines = s.lines := rfl
@[simp] theorem State.setBoundary_inputs (s : State) (v : Option Bool) : (s.setBoundary v).inputs = s.inputs := rfl
@[simp] theorem State.setBoundary_answers (s : State) (v : Option Bool) : (s.setBoundary v).answers = s.answers := rfl
@[simp] theorem State.setBoundary_events (s : State) (v : Option Bool) : (s.setBoundary v).events = s.events := rfl
@[simp] theorem State.setBoundary_stale (s : State) (v : Option Bool) : (s.setBoundary v).stale = s.stale := rfl
@[simp] theorem State.setBoundary_draws (s : State) (v : Option Bool) : (s.setBoundary v).draws = s.draws := rfl
@[simp] theorem State.setBoundary_cfg (s : State) (v : Option Bool) : (s.setBoundary v).cfg = s.cfg := rfl
@[simp] theorem State.setBoundary_mem (s : State) (v : Option Bool) : (s.setBoundary v).mem = s.mem := rfl
@[simp] theorem State.setNmiLatched_regs (s : State) (v : Bool) : (s.setNmiLatched v).regs = s.regs := rfl
@[simp] theorem State.setNmiLatched_segs (s : State) (v : Bool) : (s.setNmiLatched v).segs = s.segs := rfl
@[simp] theorem State.setNmiLatched_ip (s : State) (v : Bool) : (s.setNmiLatched v).ip = s.ip := rfl
@[simp] theorem State.setNmiLatched_flags (s : State) (v : Bool) : (s.setNmiLatched v).flags = s.flags := rfl
@[simp] theorem State.setNmiLatched_intInhibit (s : State) (v : Bool) : (s.setNmiLatched v).intInhibit = s.intInhibit := rfl
@[simp] theorem State.setNmiLatched_halted (s : State) (v : Bool) : (s.setNmiLatched v).halted = s.halted := rfl
@[simp] theorem State.setNmiLatched_waiting (s : State) (v : Bool) : (s.setNmiLatched v).waiting = s.waiting := rfl
@[simp] theorem State.setNmiLatched_pfx (s : State) (v : Bool) : (s.setNmiLatched v).pfx = s.pfx := rfl
@[simp] theorem State.setNmiLatched_start (s : State) (v : Bool) : (s.setNmiLatched v).start = s.start := rfl
@[simp] theorem State.setNmiLatched_repeating (s : State) (v : Bool) : (s.setNmiLatched v).repeating = s.repeating := rfl
@[simp] theorem State.setNmiLatched_boundary (s : State) (v : Bool) : (s.setNmiLatched v).boundary = s.boundary := rfl
@[simp] theorem State.setNmiLatched_nmiLatched (s : State) (v : Bool) : (s.setNmiLatched v).nmiLatched = v := rfl
@[simp] theorem State.setNmiLatched_lines (s : State) (v : Bool) : (s.setNmiLatched v).lines = s.lines := rfl
@[simp] theorem State.setNmiLatched_inputs (s : State) (v : Bool) : (s.setNmiLatched v).inputs = s.inputs := rfl
@[simp] theorem State.setNmiLatched_answers (s : State) (v : Bool) : (s.setNmiLatched v).answers = s.answers := rfl
@[simp] theorem State.setNmiLatched_events (s : State) (v : Bool) : (s.setNmiLatched v).events = s.events := rfl
@[simp] theorem State.setNmiLatched_stale (s : State) (v : Bool) : (s.setNmiLatched v).stale = s.stale := rfl
@[simp] theorem State.setNmiLatched_draws (s : State) (v : Bool) : (s.setNmiLatched v).draws = s.draws := rfl
@[simp] theorem State.setNmiLatched_cfg (s : State) (v : Bool) : (s.setNmiLatched v).cfg = s.cfg := rfl
@[simp] theorem State.setNmiLatched_mem (s : State) (v : Bool) : (s.setNmiLatched v).mem = s.mem := rfl
@[simp] theorem State.setLines_regs (s : State) (v : Lines) : (s.setLines v).regs = s.regs := rfl
@[simp] theorem State.setLines_segs (s : State) (v : Lines) : (s.setLines v).segs = s.segs := rfl
@[simp] theorem State.setLines_ip (s : State) (v : Lines) : (s.setLines v).ip = s.ip := rfl
@[simp] theorem State.setLines_flags (s : State) (v : Lines) : (s.setLines v).flags = s.flags := rfl
@[simp] theorem State.setLines_intInhibit (s : State) (v : Lines) : (s.setLines v).intInhibit = s.intInhibit := rfl
@[simp] theorem State.setLines_halted (s : State) (v : Lines) : (s.setLines v).halted = s.halted := rfl
@[simp] theorem State.setLines_waiting (s : State) (v : Lines) : (s.setLines v).waiting = s.waiting := rfl
@[simp] theorem State.setLines_pfx (s : State) (v : Lines) : (s.setLines v).pfx = s.pfx := rfl
@[simp] theorem State.setLines_start (s : State) (v : Lines) : (s.setLines v).start = s.start := rfl
@[simp] theorem State.setLines_repeating (s : State) (v : Lines) : (s.setLines v).repeating = s.repeating := rfl
@[simp] theorem State.setLines_boundary (s : State) (v : Lines) : (s.setLines v).boundary = s.boundary := rfl
@[simp] theorem State.setLines_nmiLatched (s : State) (v : Lines) : (s.setLines v).nmiLatched = s.nmiLatched := rfl
@[simp] theorem State.setLines_lines (s : State) (v : Lines) : (s.setLines v).lines = v := rfl
@[simp] theorem State.setLines_inputs (s : State) (v : Lines) : (s.setLines v).inputs = s.inputs := rfl
@[simp] theorem State.setLines_answers (s : State) (v : Lines) : (s.setLines v).answers = s.answers := rfl
@[simp] theorem State.setLines_events (s : State) (v : Lines) : (s.setLines v).events = s.events := rfl
@[simp] theorem State.setLines_stale (s : State) (v : Lines) : (s.setLines v).stale = s.stale := rfl
@[simp] theorem State.setLines_draws (s : State) (v : Lines) : (s.setLines v).draws = s.draws := rfl
@[simp] theorem State.setLines_cfg (s : State) (v : Lines) : (s.setLines v).cfg = s.cfg := rfl
@[simp] theorem State.setLines_mem (s : State) (v : Lines) : (s.setLines v).mem = s.mem := rfl
@[simp] theorem State.setInputs_regs (s : State) (v : List Lines) : (s.setInputs v).regs = s.regs := rfl
@[simp] theorem State.setInputs_segs (s : State) (v : List Lines) : (s.setInputs v).segs = s.segs := rfl
@[simp] theorem State.setInputs_ip (s : State) (v : List Lines) : (s.setInputs v).ip = s.ip := rfl
@[simp] theorem State.setInputs_flags (s : State) (v : List Lines) : (s.setInputs v).flags = s.flags := rfl
@[simp] theorem State.setInputs_intInhibit (s : State) (v : List Lines) : (s.setInputs v).intInhibit = s.intInhibit := rfl
@[simp] theorem State.setInputs_halted (s : State) (v : List Lines) : (s.setInputs v).halted = s.halted := rfl
@[simp] theorem State.setInputs_waiting (s : State) (v : List Lines) : (s.setInputs v).waiting = s.waiting := rfl
@[simp] theorem State.setInputs_pfx (s : State) (v : List Lines) : (s.setInputs v).pfx = s.pfx := rfl
@[simp] theorem State.setInputs_start (s : State) (v : List Lines) : (s.setInputs v).start = s.start := rfl
@[simp] theorem State.setInputs_repeating (s : State) (v : List Lines) : (s.setInputs v).repeating = s.repeating := rfl
@[simp] theorem State.setInputs_boundary (s : State) (v : List Lines) : (s.setInputs v).boundary = s.boundary := rfl
@[simp] theorem State.setInputs_nmiLatched (s : State) (v : List Lines) : (s.setInputs v).nmiLatched = s.nmiLatched := rfl
@[simp] theorem State.setInputs_lines (s : State) (v : List Lines) : (s.setInputs v).lines = s.lines := rfl
@[simp] theorem State.setInputs_inputs (s : State) (v : List Lines) : (s.setInputs v).inputs = v := rfl
@[simp] theorem State.setInputs_answers (s : State) (v : List Lines) : (s.setInputs v).answers = s.answers := rfl
@[simp] theorem State.setInputs_events (s : State) (v : List Lines) : (s.setInputs v).events = s.events := rfl
@[simp] theorem State.setInputs_stale (s : State) (v : List Lines) : (s.setInputs v).stale = s.stale := rfl
@[simp] theorem State.setInputs_draws (s : State) (v : List Lines) : (s.setInputs v).draws = s.draws := rfl
@[simp] theorem State.setInputs_cfg (s : State) (v : List Lines) : (s.setInputs v).cfg = s.cfg := rfl
@[simp] theorem State.setInputs_mem (s : State) (v : List Lines) : (s.setInputs v).mem = s.mem := rfl
@[simp] theorem State.setAnswers_regs (s : State) (v : List Word) : (s.setAnswers v).regs = s.regs := rfl
@[simp] theorem State.setAnswers_segs (s : State) (v : List Word) : (s.setAnswers v).segs = s.segs := rfl
@[simp] theorem State.setAnswers_ip (s : State) (v : List Word) : (s.setAnswers v).ip = s.ip := rfl
@[simp] theorem State.setAnswers_flags (s : State) (v : List Word) : (s.setAnswers v).flags = s.flags := rfl
@[simp] theorem State.setAnswers_intInhibit (s : State) (v : List Word) : (s.setAnswers v).intInhibit = s.intInhibit := rfl
@[simp] theorem State.setAnswers_halted (s : State) (v : List Word) : (s.setAnswers v).halted = s.halted := rfl
@[simp] theorem State.setAnswers_waiting (s : State) (v : List Word) : (s.setAnswers v).waiting = s.waiting := rfl
@[simp] theorem State.setAnswers_pfx (s : State) (v : List Word) : (s.setAnswers v).pfx = s.pfx := rfl
@[simp] theorem State.setAnswers_start (s : State) (v : List Word) : (s.setAnswers v).start = s.start := rfl
@[simp] theorem State.setAnswers_repeating (s : State) (v : List Word) : (s.setAnswers v).repeating = s.repeating := rfl
@[simp] theorem State.setAnswers_boundary (s : State) (v : List Word) : (s.setAnswers v).boundary = s.boundary := rfl
@[simp] theorem State.setAnswers_nmiLatched (s : State) (v : List Word) : (s.setAnswers v).nmiLatched = s.nmiLatched := rfl
@[simp] theorem State.setAnswers_lines (s : State) (v : List Word) : (s.setAnswers v).lines = s.lines := rfl
@[simp] theorem State.setAnswers_inputs (s : State) (v : List Word) : (s.setAnswers v).inputs = s.inputs := rfl
@[simp] theorem State.setAnswers_answers (s : State) (v : List Word) : (s.setAnswers v).answers = v := rfl
@[simp] theorem State.setAnswers_events (s : State) (v : List Word) : (s.setAnswers v).events = s.events := rfl
@[simp] theorem State.setAnswers_stale (s : State) (v : List Word) : (s.setAnswers v).stale = s.stale := rfl
@[simp] theorem State.setAnswers_draws (s : State) (v : List Word) : (s.setAnswers v).draws = s.draws := rfl
@[simp] theorem State.setAnswers_cfg (s : State) (v : List Word) : (s.setAnswers v).cfg = s.cfg := rfl
@[simp] theorem State.setAnswers_mem (s : State) (v : List Word) : (s.setAnswers v).mem = s.mem := rfl
@[simp] theorem State.setEvents_regs (s : State) (v : List Event) : (s.setEvents v).regs = s.regs := rfl
@[simp] theorem State.setEvents_segs (s : State) (v : List Event) : (s.setEvents v).segs = s.segs := rfl
@[simp] theorem State.setEvents_ip (s : State) (v : List Event) : (s.setEvents v).ip = s.ip := rfl
@[simp] theorem State.setEvents_flags (s : State) (v : List Event) : (s.setEvents v).flags = s.flags := rfl
@[simp] theorem State.setEvents_intInhibit (s : State) (v : List Event) : (s.setEvents v).intInhibit = s.intInhibit := rfl
@[simp] theorem State.setEvents_halted (s : State) (v : List Event) : (s.setEvents v).halted = s.halted := rfl
@[simp] theorem State.setEvents_waiting (s : State) (v : List Event) : (s.setEvents v).waiting = s.waiting := rfl
@[simp] theorem State.setEvents_pfx (s : State) (v : List Event) : (s.setEvents v).pfx = s.pfx := rfl
@[simp] theorem State.setEvents_start (s : State) (v : List Event) : (s.setEvents v).start = s.start := rfl
@[simp] theorem State.setEvents_repeating (s : State) (v : List Event) : (s.setEvents v).repeating = s.repeating := rfl
@[simp] theorem State.setEvents_boundary (s : State) (v : List Event) : (s.setEvents v).boundary = s.boundary := rfl
@[simp] theorem State.setEvents_nmiLatched (s : State) (v : List Event) : (s.setEvents v).nmiLatched = s.nmiLatched := rfl
@[simp] theorem State.setEvents_lines (s : State) (v : List Event) : (s.setEvents v).lines = s.lines := rfl
@[simp] theorem State.setEvents_inputs (s : State) (v : List Event) : (s.setEvents v).inputs = s.inputs := rfl
@[simp] theorem State.setEvents_answers (s : State) (v : List Event) : (s.setEvents v).answers = s.answers := rfl
@[simp] theorem State.setEvents_events (s : State) (v : List Event) : (s.setEvents v).events = v := rfl
@[simp] theorem State.setEvents_stale (s : State) (v : List Event) : (s.setEvents v).stale = s.stale := rfl
@[simp] theorem State.setEvents_draws (s : State) (v : List Event) : (s.setEvents v).draws = s.draws := rfl
@[simp] theorem State.setEvents_cfg (s : State) (v : List Event) : (s.setEvents v).cfg = s.cfg := rfl
@[simp] theorem State.setEvents_mem (s : State) (v : List Event) : (s.setEvents v).mem = s.mem := rfl
@[simp] theorem State.setStale_regs (s : State) (v : List (Nat × Option Byte)) : (s.setStale v).regs = s.regs := rfl
@[simp] theorem State.setStale_segs (s : State) (v : List (Nat × Option Byte)) : (s.setStale v).segs = s.segs := rfl
@[simp] theorem State.setStale_ip (s : State) (v : List (Nat × Option Byte)) : (s.setStale v).ip = s.ip := rfl
@[simp] theorem State.setStale_flags (s : State) (v : List (Nat × Option Byte)) : (s.setStale v).flags = s.flags := rfl
@[simp] theorem State.setStale_intInhibit (s : State) (v : List (Nat × Option Byte)) : (s.setStale v).intInhibit = s.intInhibit := rfl
@[simp] theorem State.setStale_halted (s : State) (v : List (Nat × Option Byte)) : (s.setStale v).halted = s.halted := rfl
@[simp] theorem State.setStale_waiting (s : State) (v : List (Nat × Option Byte)) : (s.setStale v).waiting = s.waiting := rfl
@[simp] theorem State.setStale_pfx (s : State) (v : List (Nat × Option Byte)) : (s.setStale v).pfx = s.pfx := rfl
@[simp] theorem State.setStale_start (s : State) (v : List (Nat × Option Byte)) : (s.setStale v).start = s.start := rfl
@[simp] theorem State.setStale_repeating (s : State) (v : List (Nat × Option Byte)) : (s.setStale v).repeating = s.repeating := rfl
@[simp] theorem State.setStale_boundary (s : State) (v : List (Nat × Option Byte)) : (s.setStale v).boundary = s.boundary := rfl
@[simp] theorem State.setStale_nmiLatched (s : State) (v : List (Nat × Option Byte)) : (s.setStale v).nmiLatched = s.nmiLatched := rfl
@[simp] theorem State.setStale_lines (s : State) (v : List (Nat × Option Byte)) : (s.setStale v).lines = s.lines := rfl
@[simp] theorem State.setStale_inputs (s : State) (v : List (Nat × Option Byte)) : (s.setStale v).inputs = s.inputs := rfl
@[simp] theorem State.setStale_answers (s : State) (v : List (Nat × Option Byte)) : (s.setStale v).answers = s.answers := rfl
@[simp] theorem State.setStale_events (s : State) (v : List (Nat × Option Byte)) : (s.setStale v).events = s.events := rfl
@[simp] theorem State.setStale_stale (s : State) (v : List (Nat × Option Byte)) : (s.setStale v).stale = v := rfl
@[simp] theorem State.setStale_draws (s : State) (v : List (Nat × Option Byte)) : (s.setStale v).draws = s.draws := rfl
@[simp] theorem State.setStale_cfg (s : State) (v : List (Nat × Option Byte)) : (s.setStale v).cfg = s.cfg := rfl
@[simp] theorem State.setStale_mem (s : State) (v : List (Nat × Option Byte)) : (s.setStale v).mem = s.mem := rfl
@[simp] theorem State.setDraws_regs (s : State) (v : Nat) : (s.setDraws v).regs = s.regs := rfl
@[simp] theorem State.setDraws_segs (s : State) (v : Nat) : (s.setDraws v).segs = s.segs := rfl
@[simp] theorem State.setDraws_ip (s : State) (v : Nat) : (s.setDraws v).ip = s.ip := rfl
@[simp] theorem State.setDraws_flags (s : State) (v : Nat) : (s.setDraws v).flags = s.flags := rfl
@[simp] theorem State.setDraws_intInhibit (s : State) (v : Nat) : (s.setDraws v).intInhibit = s.intInhibit := rfl
@[simp] theorem State.setDraws_halted (s : State) (v : Nat) : (s.setDraws v).halted = s.halted := rfl
@[simp] theorem State.setDraws_waiting (s : State) (v : Nat) : (s.setDraws v).waiting = s.waiting := rfl
@[simp] theorem State.setDraws_pfx (s : State) (v : Nat) : (s.setDraws v).pfx = s.pfx := rfl
@[simp] theorem State.setDraws_start (s : State) (v : Nat) : (s.setDraws v).start = s.start := rfl
@[simp] theorem State.setDraws_repeating (s : State) (v : Nat) : (s.setDraws v).repeating = s.repeating := rfl
@[simp] theorem State.setDraws_boundary (s : State) (v : Nat) : (s.setDraws v).boundary = s.boundary := rfl
@[simp] theorem State.setDraws_nmiLatched (s : State) (v : Nat) : (s.setDraws v).nmiLatched = s.nmiLatched := rfl
@[simp] theorem State.setDraws_lines (s : State) (v : Nat) : (s.setDraws v).lines = s.lines := rfl
@[simp] theorem State.setDraws_inputs (s : State) (v : Nat) : (s.setDraws v).inputs = s.inputs := rfl
@[simp] theorem State.setDraws_answers (s : State) (v : Nat) : (s.setDraws v).answers = s.answers := rfl
@[simp] theorem State.setDraws_events (s : State) (v : Nat) : (s.setDraws v).events = s.events := rfl
@[simp] theorem State.setDraws_stale (s : State) (v : Nat) : (s.setDraws v).stale = s.stale := rfl
@[simp] theorem State.setDraws_draws (s : State) (v : Nat) : (s.setDraws v).draws = v := rfl
@[simp] theorem State.setDraws_cfg (s : State) (v : Nat) : (s.setDraws v).cfg = s.cfg := rfl
@[simp] theorem State.setDraws_mem (s : State) (v : Nat) : (s.setDraws v).mem = s.mem := rfl
@[simp] theorem State.setCfg_regs (s : State) (v : Config) : (s.setCfg v).regs = s.regs := rfl
@[simp] theorem State.setCfg_segs (s : State) (v : Config) : (s.setCfg v).segs = s.segs := rfl
@[simp] theorem State.setCfg_ip (s : State) (v : Config) : (s.setCfg v).ip = s.ip := rfl
@[simp] theorem State.setCfg_flags (s : State) (v : Config) : (s.setCfg v).flags = s.flags := rfl
@[simp] theorem State.setCfg_intInhibit (s : State) (v : Config) : (s.setCfg v).intInhibit = s.intInhibit := rfl
@[simp] theorem State.setCfg_halted (s : State) (v : Config) : (s.setCfg v).halted = s.halted := rfl
@[simp] theorem State.setCfg_waiting (s : State) (v : Config) : (s.setCfg v).waiting = s.waiting := rfl
@[simp] theorem State.setCfg_pfx (s : State) (v : Config) : (s.setCfg v).pfx = s.pfx := rfl
@[simp] theorem State.setCfg_start (s : State) (v : Config) : (s.setCfg v).start = s.start := rfl
@[simp] theorem State.setCfg_repeating (s : State) (v : Config) : (s.setCfg v).repeating = s.repeating := rfl
@[simp] theorem State.setCfg_boundary (s : State) (v : Config) : (s.setCfg v).boundary = s.boundary := rfl
@[simp] theorem State.setCfg_nmiLatched (s : State) (v : Config) : (s.setCfg v).nmiLatched = s.nmiLatched := rfl
@[simp] theorem State.setCfg_lines (s : State) (v : Config) : (s.setCfg v).lines = s.lines := rfl
@[simp] theorem State.setCfg_inputs (s : State) (v : Config) : (s.setCfg v).inputs = s.inputs := rfl
@[simp] theorem State.setCfg_answers (s : State) (v : Config) : (s.setCfg v).answers = s.answers := rfl
@[simp] theorem State.setCfg_events (s : State) (v : Config) : (s.setCfg v).events = s.events := rfl
@[simp] theorem State.setCfg_stale (s : State) (v : Config) : (s.setCfg v).stale = s.stale := rfl
@[simp] theorem State.setCfg_draws (s : State) (v : Config) : (s.setCfg v).draws = s.draws := rfl
@[simp] theorem State.setCfg_cfg (s : State) (v : Config) : (s.setCfg v).cfg = v := rfl
@[simp] theorem State.setCfg_mem (s : State) (v : Config) : (s.setCfg v).mem = s.mem := rfl
@[simp] theorem State.setMem_regs (s : State) (v : Memory) : (s.setMem v).regs = s.regs := rfl
@[simp] theorem State.setMem_segs (s : State) (v : Memory) : (s.setMem v).segs = s.segs := rfl
@[simp] theorem State.setMem_ip (s : State) (v : Memory) : (s.setMem v).ip = s.ip := rfl
@[simp] theorem State.setMem_flags (s : State) (v : Memory) : (s.setMem v).flags = s.flags := rfl
@[simp] theorem State.setMem_intInhibit (s : State) (v : Memory) : (s.setMem v).intInhibit = s.intInhibit := rfl
@[simp] theorem State.setMem_halted (s : State) (v : Memory) : (s.setMem v).halted = s.halted := rfl
@[simp] theorem State.setMem_waiting (s : State) (v : Memory) : (s.setMem v).waiting = s.waiting := rfl
@[simp] theorem State.setMem_pfx (s : State) (v : Memory) : (s.setMem v).pfx = s.pfx := rfl
@[simp] theorem State.setMem_start (s : State) (v : Memory) : (s.setMem v).start = s.start := rfl
@[simp] theorem State.setMem_repeating (s : State) (v : Memory) : (s.setMem v).repeating = s.repeating := rfl
@[simp] theorem State.setMem_boundary (s : State) (v : Memory) : (s.setMem v).boundary = s.boundary := rfl
@[simp] theorem State.setMem_nmiLatched (s : State) (v : Memory) : (s.setMem v).nmiLatched = s.nmiLatched := rfl
@[simp] theorem State.setMem_lines (s : State) (v : Memory) : (s.setMem v).lines = s.lines := rfl
@[simp] theorem State.setMem_inputs (s : State) (v : Memory) : (s.setMem v).inputs = s.inputs := rfl
@[simp] theorem State.setMem_answers (s : State) (v : Memory) : (s.setMem v).answers = s.answers := rfl
@[simp] theorem State.setMem_events (s : State) (v : Memory) : (s.setMem v).events = s.events := rfl
@[simp] theorem State.setMem_stale (s : State) (v : Memory) : (s.setMem v).stale = s.stale := rfl
@[simp] theorem State.setMem_draws (s : State) (v : Memory) : (s.setMem v).draws = s.draws := rfl
@[simp] theorem State.setMem_cfg (s : State) (v : Memory) : (s.setMem v).cfg = s.cfg := rfl
@[simp] theorem State.setMem_mem (s : State) (v : Memory) : (s.setMem v).mem = v := rfl

end Sys2Proof.Machine
end

