-- ==== Sys2Proof/Laws/Ops.lean ====
section
/-! SUPPORT. What each shared operation can do, said once: the provers cite these instead of unfolding the operations. -/
namespace Sys2Proof.Machine

/-! ### The operation monad -/

@[simp] theorem Op.pure_run {α : Type} (a : α) (s : State) : (pure a : Op α) s = .ok (a, s) := rfl

@[simp] theorem Op.get_run (s : State) : (get : Op State) s = .ok (s, s) := rfl

@[simp] theorem Op.update_run (f : State → State) (s : State) : Op.update f s = .ok ((), f s) := rfl

@[simp] theorem Op.refuse_run {α : Type} (r : Refusal) (s : State) : (Op.refuse r : Op α) s = .error (.refused r) := rfl

@[simp] theorem draw_run (s : State) : draw s = .ok (s.drawn, s.drew) := rfl

/-- A sequence runs its second part where the first goes on, and stops where it stops. -/
theorem Op.bind_run {α β : Type} (m : Op α) (f : α → Op β) (s : State) :
    (m >>= f) s = (match m s with | .ok (a, t) => f a t | .error e => .error e) := by
  show (Except.bind (m s) fun p => f p.1 p.2) = _
  cases m s <;> rfl

/-- A function of an operation's value. -/
theorem Op.map_run {α β : Type} (f : α → β) (m : Op α) (s : State) :
    (f <$> m) s = (match m s with | .ok (a, t) => .ok (f a, t) | .error e => .error e) := by
  show (Except.map (fun p => (f p.1, p.2)) (m s)) = _
  cases m s <;> rfl

/-- The inversion of a sequence that goes on. -/
theorem Op.bind_ok {α β : Type} {m : Op α} {f : α → Op β} {s u : State} {b : β} (h : (m >>= f) s = .ok (b, u)) :
    ∃ a t, m s = .ok (a, t) ∧ f a t = .ok (b, u) := by
  rw [Op.bind_run] at h
  cases hm : m s with
  | error e => simp [hm] at h
  | ok p => exact ⟨p.1, p.2, rfl, by simpa [hm] using h⟩

/-- A sequence whose first part goes on. -/
theorem Op.bind_of_ok {α β : Type} {m : Op α} {f : α → Op β} {s t : State} {a : α} (h : m s = .ok (a, t)) :
    (m >>= f) s = f a t := by rw [Op.bind_run, h]

/-- A meaning answers a next state exactly when its operation goes on to it. -/
theorem runOp_next {m : Op Unit} {s t : State} : runOp m s = .next t ↔ m s = .ok ((), t) := by
  unfold runOp
  constructor
  · intro h
    split at h
    · rename_i e
      cases h
      exact e
    · cases h
    · cases h
  · intro h
    simp [h]

theorem runOp_of_ok {m : Op Unit} {s t : State} (h : m s = .ok ((), t)) : runOp m s = .next t := runOp_next.2 h

/-! ### Registers -/

@[simp] theorem Regs.get_set_same (r : Regs) (n : RegNum) (v : Word) : (r.set n v).get n = v := by
  cases n <;> rfl

theorem Regs.get_set_other (r : Regs) {n k : RegNum} (v : Word) (h : k ≠ n) : (r.set n v).get k = r.get k := by
  cases n <;> cases k <;> first | rfl | exact absurd rfl h

@[simp] theorem Segs.get_set_same (g : Segs) (n : SReg) (v : Word) : (g.set n v).get n = v := by
  cases n <;> rfl

theorem Segs.get_set_other (g : Segs) {n k : SReg} (v : Word) (h : k ≠ n) : (g.set n v).get k = g.get k := by
  cases n <;> cases k <;> first | rfl | exact absurd rfl h

/-- A byte-register write is a write of the word register that holds it. -/
theorem setReg8_eq (s : State) (n : RegNum) (v : Byte) : ∃ w, s.setReg8 n v = s.setReg16 (byteHome n).1 w := by
  unfold State.setReg8
  split
  rename_i r high e
  cases high <;> simp [e]

/-- A register write changes `regs` and nothing else. -/
theorem setReg_eq (s : State) (w : Width) (n : RegNum) (v : BitVec w.bits) : ∃ g, s.setReg w n v = s.setRegs g := by
  cases w with
  | byte =>
    obtain ⟨u, h⟩ := setReg8_eq s n v
    exact ⟨_, h⟩
  | word => exact ⟨_, rfl⟩

/-! ### Memory accesses -/

/-- A read of RAM or ROM answers the byte it holds and changes nothing. -/
theorem readByte_ram {s : State} {x : Nat} {v : Byte} (hk : kindAt s.cfg.memMap x = .ram ∨ kindAt s.cfg.memMap x = .rom)
    (hv : Memory.lookup s.mem x = some v) : readByte x s = .ok (v, s) := by
  unfold readByte
  rcases hk with hk | hk <;> simp [hk, hv]

/-- The only fields that a read may change: those of the environment. -/
theorem readByte_ok {s t : State} {x : Nat} {v : Byte} (h : readByte x s = .ok (v, t)) :
    ∃ a e d, t = ((s.setAnswers a).setEvents e).setDraws d := by
  unfold readByte at h
  split at h
  · split at h
    · cases h
      exact ⟨s.answers, s.events, s.draws, rfl⟩
    · cases h
  · split at h
    · cases h
      exact ⟨s.answers, s.events, s.draws, rfl⟩
    · cases h
  · obtain ⟨a, t', h1, h2⟩ := Op.bind_ok h
    cases h1
    cases h2
    exact ⟨s.answers, s.events, s.draws + 1, rfl⟩
  · obtain ⟨a, t', h1, h2⟩ := Op.bind_ok h
    obtain ⟨u, t'', h3, h4⟩ := Op.bind_ok h2
    cases h3
    cases h4
    unfold answer at h1
    split at h1
    · rename_i b rest e
      cases h1
      exact ⟨rest, .memRead x (lowByte a) :: s.events, s.draws, rfl⟩
    · cases h1
      exact ⟨s.answers, .memRead x (lowByte s.drawn) :: s.events, s.draws + 1, rfl⟩

/-- A load changes at most the environment's fields. -/
theorem load_ok {w : Width} {seg off : Word} {s t : State} {v : BitVec w.bits} (h : load w seg off s = .ok (v, t)) :
    ∃ a e d, t = ((s.setAnswers a).setEvents e).setDraws d := by
  cases w with
  | byte =>
    obtain ⟨s0, s1, h0, h1⟩ := Op.bind_ok h
    cases h0
    exact readByte_ok h1
  | word =>
    obtain ⟨s0, s1, h0, h1⟩ := Op.bind_ok h
    cases h0
    obtain ⟨lo, s2, h2, h3⟩ := Op.bind_ok h1
    obtain ⟨s3, s4, h4, h5⟩ := Op.bind_ok h3
    cases h4
    obtain ⟨hi, s5, h6, h7⟩ := Op.bind_ok h5
    cases h7
    obtain ⟨a, e, d, rfl⟩ := readByte_ok h2
    obtain ⟨a', e', d', rfl⟩ := readByte_ok h6
    exact ⟨a', e', d', rfl⟩

/-- A read of a place changes at most the environment's fields. -/
theorem readLoc_ok {w : Width} {l : Loc} {s t : State} {v : BitVec w.bits} (h : readLoc w l s = .ok (v, t)) :
    ∃ a e d, t = ((s.setAnswers a).setEvents e).setDraws d := by
  cases l with
  | reg r =>
    cases h
    exact ⟨s.answers, s.events, s.draws, rfl⟩
  | mem seg off => exact load_ok h

/-- A store of a byte changes at most memory, the trace and the bytes fetched ahead. -/
theorem storeByte_eq (s : State) (x : Nat) (v : Byte) :
    ∃ m e q, s.storeByte x v = ((s.setMem m).setEvents e).setStale q := by
  unfold State.storeByte
  split
  · unfold State.noteStale
    split
    · exact ⟨Memory.write s.mem x v, s.events, (x, Memory.lookup s.mem x) :: s.stale, rfl⟩
    · exact ⟨Memory.write s.mem x v, s.events, s.stale, rfl⟩
  · exact ⟨s.mem, s.events, s.stale, rfl⟩
  · exact ⟨s.mem, s.events, s.stale, rfl⟩
  · exact ⟨s.mem, .memWrite x v :: s.events, s.stale, rfl⟩

@[simp] theorem noteStale_mem (s : State) (x : Nat) : (s.noteStale x).mem = s.mem := by
  unfold State.noteStale
  split <;> rfl

/-- What a store keeps of the byte it replaces (20_memory.md R104): in RAM and within the bytes that may have been fetched ahead,
what the address held; else nothing. -/
theorem storeByte_stale (s : State) (x : Nat) (v : Byte) :
    (s.storeByte x v).stale = if kindAt s.cfg.memMap x = .ram ∧ s.mayBePrefetched x = true then
      (x, Memory.lookup s.mem x) :: s.stale else s.stale := by
  unfold State.storeByte
  split <;> rename_i h <;> simp only [h, State.record, State.noteStale, true_and, false_and, if_false, reduceCtorEq, State.setMem_stale,
    State.setEvents_stale]
  split <;> rfl

/-- The memory after a store of a byte. -/
theorem storeByte_mem (s : State) (x : Nat) (v : Byte) :
    (s.storeByte x v).mem = if kindAt s.cfg.memMap x = .ram then Memory.write s.mem x v else s.mem := by
  unfold State.storeByte
  split
  · rename_i h
    simp [h]
  · rename_i h
    simp [h]
  · rename_i h
    simp [h]
  · rename_i h
    simp [h, State.record]

/-- A store of a byte leaves every other byte alone. -/
theorem storeByte_other (s : State) {x y : Nat} (v : Byte) (h : y ≠ x) :
    Memory.lookup (s.storeByte x v).mem y = Memory.lookup s.mem y := by
  rw [storeByte_mem]
  split
  · exact Memory.lookup_write_other _ v h
  · rfl

/-- A store of a byte keeps the canonical form. -/
theorem storeByte_wf (s : State) {x : Nat} (hx : x < 2 ^ 20) (v : Byte) (h : Memory.wf s.mem = true) :
    Memory.wf (s.storeByte x v).mem = true := by
  rw [storeByte_mem]
  split
  · exact Memory.wf_write h hx v
  · exact h

/-- A store changes at most memory, the trace and the bytes fetched ahead. -/
theorem store_eq (s : State) (w : Width) (seg off : Word) (v : BitVec w.bits) :
    ∃ m e q, s.store w seg off v = ((s.setMem m).setEvents e).setStale q := by
  cases w with
  | byte => exact storeByte_eq _ _ _
  | word =>
    obtain ⟨m, e, q, h⟩ := storeByte_eq s (byteAddr s.cfg.segWrap seg off 0) (lowByte v)
    obtain ⟨m', e', q', h'⟩ := storeByte_eq (s.storeByte (byteAddr s.cfg.segWrap seg off 0) (lowByte v))
      (byteAddr s.cfg.segWrap seg off 1) (highByte v)
    exact ⟨m', e', q', h'.trans (by rw [h]; rfl)⟩

@[simp] theorem storeByte_regs (s : State) (x : Nat) (v : Byte) : (s.storeByte x v).regs = s.regs := by
  obtain ⟨m, e, q, h⟩ := storeByte_eq s x v
  simp [h]

@[simp] theorem storeByte_segs (s : State) (x : Nat) (v : Byte) : (s.storeByte x v).segs = s.segs := by
  obtain ⟨m, e, q, h⟩ := storeByte_eq s x v
  simp [h]

@[simp] theorem storeByte_ip (s : State) (x : Nat) (v : Byte) : (s.storeByte x v).ip = s.ip := by
  obtain ⟨m, e, q, h⟩ := storeByte_eq s x v
  simp [h]

@[simp] theorem storeByte_flags (s : State) (x : Nat) (v : Byte) : (s.storeByte x v).flags = s.flags := by
  obtain ⟨m, e, q, h⟩ := storeByte_eq s x v
  simp [h]

@[simp] theorem storeByte_intInhibit (s : State) (x : Nat) (v : Byte) : (s.storeByte x v).intInhibit = s.intInhibit := by
  obtain ⟨m, e, q, h⟩ := storeByte_eq s x v
  simp [h]

@[simp] theorem storeByte_halted (s : State) (x : Nat) (v : Byte) : (s.storeByte x v).halted = s.halted := by
  obtain ⟨m, e, q, h⟩ := storeByte_eq s x v
  simp [h]

@[simp] theorem storeByte_waiting (s : State) (x : Nat) (v : Byte) : (s.storeByte x v).waiting = s.waiting := by
  obtain ⟨m, e, q, h⟩ := storeByte_eq s x v
  simp [h]

@[simp] theorem storeByte_pfx (s : State) (x : Nat) (v : Byte) : (s.storeByte x v).pfx = s.pfx := by
  obtain ⟨m, e, q, h⟩ := storeByte_eq s x v
  simp [h]

@[simp] theorem storeByte_start (s : State) (x : Nat) (v : Byte) : (s.storeByte x v).start = s.start := by
  obtain ⟨m, e, q, h⟩ := storeByte_eq s x v
  simp [h]

@[simp] theorem storeByte_repeating (s : State) (x : Nat) (v : Byte) : (s.storeByte x v).repeating = s.repeating := by
  obtain ⟨m, e, q, h⟩ := storeByte_eq s x v
  simp [h]

@[simp] theorem storeByte_boundary (s : State) (x : Nat) (v : Byte) : (s.storeByte x v).boundary = s.boundary := by
  obtain ⟨m, e, q, h⟩ := storeByte_eq s x v
  simp [h]

@[simp] theorem storeByte_nmiLatched (s : State) (x : Nat) (v : Byte) : (s.storeByte x v).nmiLatched = s.nmiLatched := by
  obtain ⟨m, e, q, h⟩ := storeByte_eq s x v
  simp [h]

@[simp] theorem storeByte_lines (s : State) (x : Nat) (v : Byte) : (s.storeByte x v).lines = s.lines := by
  obtain ⟨m, e, q, h⟩ := storeByte_eq s x v
  simp [h]

@[simp] theorem storeByte_inputs (s : State) (x : Nat) (v : Byte) : (s.storeByte x v).inputs = s.inputs := by
  obtain ⟨m, e, q, h⟩ := storeByte_eq s x v
  simp [h]

@[simp] theorem storeByte_answers (s : State) (x : Nat) (v : Byte) : (s.storeByte x v).answers = s.answers := by
  obtain ⟨m, e, q, h⟩ := storeByte_eq s x v
  simp [h]

@[simp] theorem storeByte_draws (s : State) (x : Nat) (v : Byte) : (s.storeByte x v).draws = s.draws := by
  obtain ⟨m, e, q, h⟩ := storeByte_eq s x v
  simp [h]

@[simp] theorem storeByte_cfg (s : State) (x : Nat) (v : Byte) : (s.storeByte x v).cfg = s.cfg := by
  obtain ⟨m, e, q, h⟩ := storeByte_eq s x v
  simp [h]

@[simp] theorem store_regs (s : State) (w : Width) (seg off : Word) (v : BitVec w.bits) : (s.store w seg off v).regs = s.regs := by
  obtain ⟨m, e, q, h⟩ := store_eq s w seg off v
  simp [h]

@[simp] theorem store_segs (s : State) (w : Width) (seg off : Word) (v : BitVec w.bits) : (s.store w seg off v).segs = s.segs := by
  obtain ⟨m, e, q, h⟩ := store_eq s w seg off v
  simp [h]

@[simp] theorem store_ip (s : State) (w : Width) (seg off : Word) (v : BitVec w.bits) : (s.store w seg off v).ip = s.ip := by
  obtain ⟨m, e, q, h⟩ := store_eq s w seg off v
  simp [h]

@[simp] theorem store_flags (s : State) (w : Width) (seg off : Word) (v : BitVec w.bits) : (s.store w seg off v).flags = s.flags := by
  obtain ⟨m, e, q, h⟩ := store_eq s w seg off v
  simp [h]

@[simp] theorem store_intInhibit (s : State) (w : Width) (seg off : Word) (v : BitVec w.bits) : (s.store w seg off v).intInhibit = s.intInhibit := by
  obtain ⟨m, e, q, h⟩ := store_eq s w seg off v
  simp [h]

@[simp] theorem store_halted (s : State) (w : Width) (seg off : Word) (v : BitVec w.bits) : (s.store w seg off v).halted = s.halted := by
  obtain ⟨m, e, q, h⟩ := store_eq s w seg off v
  simp [h]

@[simp] theorem store_waiting (s : State) (w : Width) (seg off : Word) (v : BitVec w.bits) : (s.store w seg off v).waiting = s.waiting := by
  obtain ⟨m, e, q, h⟩ := store_eq s w seg off v
  simp [h]

@[simp] theorem store_pfx (s : State) (w : Width) (seg off : Word) (v : BitVec w.bits) : (s.store w seg off v).pfx = s.pfx := by
  obtain ⟨m, e, q, h⟩ := store_eq s w seg off v
  simp [h]

@[simp] theorem store_start (s : State) (w : Width) (seg off : Word) (v : BitVec w.bits) : (s.store w seg off v).start = s.start := by
  obtain ⟨m, e, q, h⟩ := store_eq s w seg off v
  simp [h]

@[simp] theorem store_repeating (s : State) (w : Width) (seg off : Word) (v : BitVec w.bits) : (s.store w seg off v).repeating = s.repeating := by
  obtain ⟨m, e, q, h⟩ := store_eq s w seg off v
  simp [h]

@[simp] theorem store_boundary (s : State) (w : Width) (seg off : Word) (v : BitVec w.bits) : (s.store w seg off v).boundary = s.boundary := by
  obtain ⟨m, e, q, h⟩ := store_eq s w seg off v
  simp [h]

@[simp] theorem store_nmiLatched (s : State) (w : Width) (seg off : Word) (v : BitVec w.bits) : (s.store w seg off v).nmiLatched = s.nmiLatched := by
  obtain ⟨m, e, q, h⟩ := store_eq s w seg off v
  simp [h]

@[simp] theorem store_lines (s : State) (w : Width) (seg off : Word) (v : BitVec w.bits) : (s.store w seg off v).lines = s.lines := by
  obtain ⟨m, e, q, h⟩ := store_eq s w seg off v
  simp [h]

@[simp] theorem store_inputs (s : State) (w : Width) (seg off : Word) (v : BitVec w.bits) : (s.store w seg off v).inputs = s.inputs := by
  obtain ⟨m, e, q, h⟩ := store_eq s w seg off v
  simp [h]

@[simp] theorem store_answers (s : State) (w : Width) (seg off : Word) (v : BitVec w.bits) : (s.store w seg off v).answers = s.answers := by
  obtain ⟨m, e, q, h⟩ := store_eq s w seg off v
  simp [h]

@[simp] theorem store_draws (s : State) (w : Width) (seg off : Word) (v : BitVec w.bits) : (s.store w seg off v).draws = s.draws := by
  obtain ⟨m, e, q, h⟩ := store_eq s w seg off v
  simp [h]

@[simp] theorem store_cfg (s : State) (w : Width) (seg off : Word) (v : BitVec w.bits) : (s.store w seg off v).cfg = s.cfg := by
  obtain ⟨m, e, q, h⟩ := store_eq s w seg off v
  simp [h]

/-- A store keeps the canonical form. -/
theorem store_wf (s : State) (w : Width) (seg off : Word) (v : BitVec w.bits) (h : Memory.wf s.mem = true) :
    Memory.wf (s.store w seg off v).mem = true := by
  cases w with
  | byte => exact storeByte_wf s (byteAddr_lt _ _ _ _) _ h
  | word => exact storeByte_wf _ (byteAddr_lt _ _ _ _) _ (storeByte_wf s (byteAddr_lt _ _ _ _) _ h)

/-- The two bytes of a word lie at two addresses (20_memory.md R86). -/
theorem byteAddr_ne (wrap : SegWrap) (seg off : Word) : byteAddr wrap seg off 0 ≠ byteAddr wrap seg off 1 := by
  cases wrap with
  | wrap16 =>
    simp only [byteAddr, phys]
    intro h
    have h1 := off.isLt
    have h2 := seg.isLt
    by_cases e : off.toNat = 65535
    · have : (off + BitVec.ofNat 16 1).toNat = 0 := by simp [BitVec.toNat_add, e]
      have h0 : (off + BitVec.ofNat 16 0).toNat = 65535 := by simp [e]
      rw [this, h0] at h
      omega
    · have : (off + BitVec.ofNat 16 1).toNat = off.toNat + 1 := by
        simp [BitVec.toNat_add]
        omega
      have h0 : (off + BitVec.ofNat 16 0).toNat = off.toNat := by simp
      rw [this, h0] at h
      omega
  | linear =>
    simp only [byteAddr]
    intro h
    omega

/-! ### The stack, control transfers and interrupts -/

/-- A push changes SP and, at most, memory, the trace and the bytes fetched ahead. -/
theorem push16_eq (s : State) (v : Word) :
    ∃ m e q, s.push16 v = (((s.setReg16 .sp (s.regs.sp - 2)).setMem m).setEvents e).setStale q := by
  unfold State.push16
  exact store_eq _ _ _ _ _

@[simp] theorem push16_segs (s : State) (v : Word) : (s.push16 v).segs = s.segs := by
  obtain ⟨m, e, q, h⟩ := push16_eq s v
  simp [h, State.setReg16]

@[simp] theorem push16_ip (s : State) (v : Word) : (s.push16 v).ip = s.ip := by
  obtain ⟨m, e, q, h⟩ := push16_eq s v
  simp [h, State.setReg16]

@[simp] theorem push16_flags (s : State) (v : Word) : (s.push16 v).flags = s.flags := by
  obtain ⟨m, e, q, h⟩ := push16_eq s v
  simp [h, State.setReg16]

@[simp] theorem push16_intInhibit (s : State) (v : Word) : (s.push16 v).intInhibit = s.intInhibit := by
  obtain ⟨m, e, q, h⟩ := push16_eq s v
  simp [h, State.setReg16]

@[simp] theorem push16_halted (s : State) (v : Word) : (s.push16 v).halted = s.halted := by
  obtain ⟨m, e, q, h⟩ := push16_eq s v
  simp [h, State.setReg16]

@[simp] theorem push16_waiting (s : State) (v : Word) : (s.push16 v).waiting = s.waiting := by
  obtain ⟨m, e, q, h⟩ := push16_eq s v
  simp [h, State.setReg16]

@[simp] theorem push16_pfx (s : State) (v : Word) : (s.push16 v).pfx = s.pfx := by
  obtain ⟨m, e, q, h⟩ := push16_eq s v
  simp [h, State.setReg16]

@[simp] theorem push16_start (s : State) (v : Word) : (s.push16 v).start = s.start := by
  obtain ⟨m, e, q, h⟩ := push16_eq s v
  simp [h, State.setReg16]

@[simp] theorem push16_repeating (s : State) (v : Word) : (s.push16 v).repeating = s.repeating := by
  obtain ⟨m, e, q, h⟩ := push16_eq s v
  simp [h, State.setReg16]

@[simp] theorem push16_boundary (s : State) (v : Word) : (s.push16 v).boundary = s.boundary := by
  obtain ⟨m, e, q, h⟩ := push16_eq s v
  simp [h, State.setReg16]

@[simp] theorem push16_nmiLatched (s : State) (v : Word) : (s.push16 v).nmiLatched = s.nmiLatched := by
  obtain ⟨m, e, q, h⟩ := push16_eq s v
  simp [h, State.setReg16]

@[simp] theorem push16_lines (s : State) (v : Word) : (s.push16 v).lines = s.lines := by
  obtain ⟨m, e, q, h⟩ := push16_eq s v
  simp [h, State.setReg16]

@[simp] theorem push16_inputs (s : State) (v : Word) : (s.push16 v).inputs = s.inputs := by
  obtain ⟨m, e, q, h⟩ := push16_eq s v
  simp [h, State.setReg16]

@[simp] theorem push16_answers (s : State) (v : Word) : (s.push16 v).answers = s.answers := by
  obtain ⟨m, e, q, h⟩ := push16_eq s v
  simp [h, State.setReg16]

@[simp] theorem push16_draws (s : State) (v : Word) : (s.push16 v).draws = s.draws := by
  obtain ⟨m, e, q, h⟩ := push16_eq s v
  simp [h, State.setReg16]

@[simp] theorem push16_cfg (s : State) (v : Word) : (s.push16 v).cfg = s.cfg := by
  obtain ⟨m, e, q, h⟩ := push16_eq s v
  simp [h, State.setReg16]

@[simp] theorem push16_regs (s : State) (v : Word) : (s.push16 v).regs = s.regs.set .sp (s.regs.sp - 2) := by
  obtain ⟨m, e, q, h⟩ := push16_eq s v
  simp [h, State.setReg16]

/-- A push keeps the canonical form. -/
theorem push16_wf (s : State) (v : Word) (h : Memory.wf s.mem = true) : Memory.wf (s.push16 v).mem = true := by
  unfold State.push16
  exact store_wf _ _ _ _ _ h

/-- A pop reads a word at SS:SP and adds 2 to SP; of the rest only the environment's fields may change. -/
theorem pop16_ok {s t : State} {v : Word} (h : pop16 s = .ok (v, t)) :
    ∃ u, load .word s.segs.ss s.regs.sp s = .ok (v, u) ∧ t = u.setReg16 .sp (u.regs.sp + 2) := by
  obtain ⟨s0, s1, h0, h1⟩ := Op.bind_ok h
  cases h0
  obtain ⟨w, u, h2, h3⟩ := Op.bind_ok h1
  obtain ⟨x, t', h4, h5⟩ := Op.bind_ok h3
  cases h4
  cases h5
  exact ⟨u, h2, rfl⟩

/-- What an interrupt sequence that goes on has done (60_exceptions.md R710): it read the two words of its vector and then, from
the state `u` after those reads, pushed FLAGS, CS and the return address and went to the handler. -/
theorem interrupt_ok {n : Byte} {ret : Word} {s t : State} (h : interrupt n ret s = .ok ((), t)) :
    ∃ ip cs r u, load .word 0 (zext16 n * 4) s = .ok (ip, r) ∧ load .word 0 (zext16 n * 4 + 2) r = .ok (cs, u) ∧
      t = ((((((u.push16 u.flagsWord).setFlags { u.flags with ifl := false, tf := false }).push16 u.segs.cs).push16 ret).jumpFar
        cs ip).setHalted false).setWaiting false := by
  obtain ⟨ip, r, h1, h2⟩ := Op.bind_ok h
  obtain ⟨cs, u, h3, h4⟩ := Op.bind_ok h2
  refine ⟨ip, cs, r, u, h1, h3, ?_⟩
  simp only [Op.update_run] at h4
  cases h4
  simp

/-- An interrupt return that goes on has popped IP, CS and FLAGS (44_control_transfer.md R413). -/
theorem interruptReturn_ok {s t : State} (h : interruptReturn s = .ok ((), t)) :
    ∃ ip cs fl s1 s2 s3, pop16 s = .ok (ip, s1) ∧ pop16 s1 = .ok (cs, s2) ∧ pop16 s2 = .ok (fl, s3) ∧
      t = (s3.jumpFar cs ip).setFlags (Flags.ofWord fl) := by
  obtain ⟨ip, s1, h1, h2⟩ := Op.bind_ok h
  obtain ⟨cs, s2, h3, h4⟩ := Op.bind_ok h2
  obtain ⟨fl, s3, h5, h6⟩ := Op.bind_ok h4
  cases h6
  exact ⟨ip, cs, fl, s1, s2, s3, h1, h3, h5, rfl⟩

end Sys2Proof.Machine
end

