-- ==== Sys2Proof/Laws/Cycle.lean ====
section
/-! SUPPORT. What fetching a byte, sampling the lines and accepting an interrupt can do. -/
namespace Sys2Proof.Machine

/-! ### Fetching a byte -/

/-- What a fetch sees is what memory holds or something that a store kept, and seeing it changes nothing but the count of draws
(20_memory.md R104). -/
theorem pickFetched_eq (x : Nat) (c : Option Byte) (l : List (Nat × Option Byte)) (s : State) :
    ∃ b d, pickFetched x c l s = (b, s.setDraws d) ∧ (b = c ∨ (x, b) ∈ l) := by
  induction l generalizing s with
  | nil => exact ⟨c, s.draws, rfl, .inl rfl⟩
  | cons p l ih =>
    obtain ⟨a, old⟩ := p
    simp only [pickFetched]
    split
    · rename_i h
      cases h
      split
      · exact ⟨old, s.draws + 1, rfl, .inr (.head _)⟩
      · obtain ⟨b, d, h, hb⟩ := ih s.drew
        exact ⟨b, d, h, hb.imp_right (.tail _)⟩
    · obtain ⟨b, d, h, hb⟩ := ih s
      exact ⟨b, d, h, hb.imp_right (.tail _)⟩

/-- With nothing kept for an address a fetch there sees memory. -/
theorem pickFetched_none {x : Nat} {l : List (Nat × Option Byte)} (h : ∀ p ∈ l, p.1 ≠ x) (c : Option Byte) (s : State) :
    pickFetched x c l s = (c, s) := by
  induction l with
  | nil => rfl
  | cons p l ih =>
    obtain ⟨a, old⟩ := p
    have ha : a ≠ x := h _ (.head _)
    simp only [pickFetched, ha, if_false]
    exact ih fun q hq => h q (.tail _ hq)

/-- Where a byte was fetched from RAM or ROM: memory or a kept byte gave it, and IP is one higher (30_encoding.md R121). -/
theorem fetchByte_ok {s t : State} {b : Byte} (hk : kindAt s.cfg.memMap s.codeAddr = .ram ∨ kindAt s.cfg.memMap s.codeAddr = .rom)
    (h : fetchByte s = .ok (b, t)) :
    ∃ d, t = (s.setDraws d).setIp (s.ip + 1) ∧ (Memory.lookup s.mem s.codeAddr = some b ∨ (s.codeAddr, some b) ∈ s.stale) := by
  obtain ⟨o, d, hp, ho⟩ := pickFetched_eq s.codeAddr (Memory.lookup s.mem s.codeAddr) s.stale s
  rcases hk with hk | hk <;> simp only [fetchByte, hk, hp] at h <;> cases o <;> cases h <;> exact ⟨d, rfl, ho.imp Eq.symm id⟩

/-! ### Sampling the lines -/

/-- A sample changes the lines, the inputs to come and the NMI latch only (60_exceptions.md R720, R722). -/
theorem sample_eq (s : State) : ∃ i l n, s.sample = ((s.setInputs i).setLines l).setNmiLatched n := by
  unfold State.sample
  split
  · exact ⟨s.inputs, .quiet, s.nmiLatched, rfl⟩
  · rename_i l rest _
    exact ⟨rest, l, s.nmiLatched || l.nmi, rfl⟩

@[simp] theorem sample_regs (s : State) : s.sample.regs = s.regs := by
  obtain ⟨i, l, n, h⟩ := sample_eq s
  simp [h]

@[simp] theorem sample_segs (s : State) : s.sample.segs = s.segs := by
  obtain ⟨i, l, n, h⟩ := sample_eq s
  simp [h]

@[simp] theorem sample_ip (s : State) : s.sample.ip = s.ip := by
  obtain ⟨i, l, n, h⟩ := sample_eq s
  simp [h]

@[simp] theorem sample_flags (s : State) : s.sample.flags = s.flags := by
  obtain ⟨i, l, n, h⟩ := sample_eq s
  simp [h]

@[simp] theorem sample_intInhibit (s : State) : s.sample.intInhibit = s.intInhibit := by
  obtain ⟨i, l, n, h⟩ := sample_eq s
  simp [h]

@[simp] theorem sample_halted (s : State) : s.sample.halted = s.halted := by
  obtain ⟨i, l, n, h⟩ := sample_eq s
  simp [h]

@[simp] theorem sample_waiting (s : State) : s.sample.waiting = s.waiting := by
  obtain ⟨i, l, n, h⟩ := sample_eq s
  simp [h]

@[simp] theorem sample_pfx (s : State) : s.sample.pfx = s.pfx := by
  obtain ⟨i, l, n, h⟩ := sample_eq s
  simp [h]

@[simp] theorem sample_start (s : State) : s.sample.start = s.start := by
  obtain ⟨i, l, n, h⟩ := sample_eq s
  simp [h]

@[simp] theorem sample_repeating (s : State) : s.sample.repeating = s.repeating := by
  obtain ⟨i, l, n, h⟩ := sample_eq s
  simp [h]

@[simp] theorem sample_boundary (s : State) : s.sample.boundary = s.boundary := by
  obtain ⟨i, l, n, h⟩ := sample_eq s
  simp [h]

@[simp] theorem sample_answers (s : State) : s.sample.answers = s.answers := by
  obtain ⟨i, l, n, h⟩ := sample_eq s
  simp [h]

@[simp] theorem sample_events (s : State) : s.sample.events = s.events := by
  obtain ⟨i, l, n, h⟩ := sample_eq s
  simp [h]

@[simp] theorem sample_stale (s : State) : s.sample.stale = s.stale := by
  obtain ⟨i, l, n, h⟩ := sample_eq s
  simp [h]

@[simp] theorem sample_draws (s : State) : s.sample.draws = s.draws := by
  obtain ⟨i, l, n, h⟩ := sample_eq s
  simp [h]

@[simp] theorem sample_cfg (s : State) : s.sample.cfg = s.cfg := by
  obtain ⟨i, l, n, h⟩ := sample_eq s
  simp [h]

@[simp] theorem sample_mem (s : State) : s.sample.mem = s.mem := by
  obtain ⟨i, l, n, h⟩ := sample_eq s
  simp [h]

/-! ### Accepting an interrupt -/

/-- What an accepted interrupt has done: its sequence with the resume address, and then no instruction is in progress
(60_exceptions.md R720). -/
theorem acceptInterrupt_ok {n : Byte} {after : Option Bool} {s t : State} (h : acceptInterrupt n after s = .ok ((), t)) :
    ∃ u, interrupt n s.resumeIp s = .ok ((), u) ∧ t = ((u.setPfx .none).setRepeating none).setBoundary after := by
  obtain ⟨s0, s1, h0, h1⟩ := Op.bind_ok h
  cases h0
  obtain ⟨_, u, h2, h3⟩ := Op.bind_ok h1
  cases h3
  exact ⟨u, h2, rfl⟩

/-- What an accepted NMI has done: type 2, and then type 1 if a trap was due (60_exceptions.md R720, R722). -/
theorem acceptNmi_ok {tf : Bool} {s t : State} (h : acceptNmi tf s = .ok ((), t)) :
    ∃ u, acceptInterrupt 2 none s = .ok ((), u) ∧ (tf = false → t = u) ∧
      (tf = true → acceptInterrupt 1 none u = .ok ((), t)) := by
  obtain ⟨_, u, h1, h2⟩ := Op.bind_ok h
  cases tf with
  | false =>
    cases h2
    exact ⟨t, h1, fun _ => rfl, nofun⟩
  | true => exact ⟨u, h1, nofun, fun _ => h2⟩

end Sys2Proof.Machine
end

