-- ==== Sys2Proof/Laws/PerInstr.lean ====
section
/-! SUPPORT. Facts about the instructions as syntax, one lemma per constructor of `Instr`. -/
namespace Sys2Proof.Laws.EncodeLength
open Encoder

/-- The encoding of an instruction has at least one byte and at most `maxLength` (30_encoding.md R124). -/
def Statement (i : Instr) : Prop := 1 ≤ (encode i).length ∧ (encode i).length ≤ maxLength

theorem imm_length (i : Imm) : 1 ≤ (Encoder.imm i).length ∧ (Encoder.imm i).length ≤ 2 := by
  cases i <;> simp [Encoder.imm, word]

theorem modRM_length (r : RegNum) (rm : RM) : 1 ≤ (modRM r rm).length ∧ (modRM r rm).length ≤ 3 := by
  cases rm with
  | reg _ => simp [modRM]
  | mem m => cases m <;> simp [modRM, word]

/-- An encoding of a fixed length. -/
theorem fixed {i : Instr} (n : Nat) (h : (encode i).length = n) (hn : (decide (1 ≤ n) && decide (n ≤ maxLength)) = true) :
    Statement i := by
  simp only [Bool.and_eq_true, decide_eq_true_eq] at hn
  rw [Statement, h]
  exact hn

/-- `n` bytes, then an operand. -/
theorem operand {i : Instr} (n : Nat) (r : RegNum) (rm : RM) (h : (encode i).length = (modRM r rm).length + n)
    (hn : decide (n + 3 ≤ maxLength) = true) : Statement i := by
  have h₁ := modRM_length r rm
  have h₂ := of_decide_eq_true hn
  rw [Statement, h]
  omega

/-- `n` bytes, then an immediate. -/
theorem immediate {i : Instr} (n : Nat) (j : Imm) (h : (encode i).length = (Encoder.imm j).length + n)
    (hn : decide (n + 2 ≤ maxLength) = true) : Statement i := by
  have h₁ := imm_length j
  have h₂ := of_decide_eq_true hn
  rw [Statement, h]
  omega

/-- Some bytes, then an operand and one byte. -/
theorem operandByte {i : Instr} (r : RegNum) (rm : RM) (b : Byte) (pre : List Byte)
    (h : encode i = pre ++ (modRM r rm ++ [b])) (hn : decide (pre.length + 4 ≤ maxLength) = true) : Statement i := by
  have h₁ := modRM_length r rm
  have h₂ := of_decide_eq_true hn
  rw [Statement, h]
  simp only [List.length_append, List.length_cons, List.length_nil]
  omega

/-- Some bytes, then an operand and an immediate. -/
theorem operandImmediate {i : Instr} (r : RegNum) (rm : RM) (j : Imm) (pre : List Byte)
    (h : encode i = pre ++ (modRM r rm ++ Encoder.imm j)) (hn : decide (pre.length + 5 ≤ maxLength) = true) :
    Statement i := by
  have h₁ := modRM_length r rm
  have h₂ := imm_length j
  have h₃ := of_decide_eq_true hn
  rw [Statement, h]
  simp only [List.length_append]
  omega

theorem addRmReg (w : Width) (rm : RM) (r : RegNum) : Statement (.addRmReg w rm r) := operand 1 r rm rfl rfl

theorem addRegRm (w : Width) (r : RegNum) (rm : RM) : Statement (.addRegRm w r rm) := operand 1 r rm rfl rfl

theorem addAcc (imm : Imm) : Statement (.addAcc imm) := immediate 1 imm rfl rfl

theorem addRmImm (rm : RM) (imm : Imm) : Statement (.addRmImm rm imm) :=
  operandImmediate .r0 rm imm [opW 0x80 (immWidth imm)] rfl rfl

theorem addRmImm8 (rm : RM) (b : Byte) : Statement (.addRmImm8 rm b) := operandByte .r0 rm b [0x83] rfl rfl

theorem orRmReg (w : Width) (rm : RM) (r : RegNum) : Statement (.orRmReg w rm r) := operand 1 r rm rfl rfl

theorem orRegRm (w : Width) (r : RegNum) (rm : RM) : Statement (.orRegRm w r rm) := operand 1 r rm rfl rfl

theorem orAcc (imm : Imm) : Statement (.orAcc imm) := immediate 1 imm rfl rfl

theorem orRmImm (rm : RM) (imm : Imm) : Statement (.orRmImm rm imm) :=
  operandImmediate .r1 rm imm [opW 0x80 (immWidth imm)] rfl rfl

theorem adcRmReg (w : Width) (rm : RM) (r : RegNum) : Statement (.adcRmReg w rm r) := operand 1 r rm rfl rfl

theorem adcRegRm (w : Width) (r : RegNum) (rm : RM) : Statement (.adcRegRm w r rm) := operand 1 r rm rfl rfl

theorem adcAcc (imm : Imm) : Statement (.adcAcc imm) := immediate 1 imm rfl rfl

theorem adcRmImm (rm : RM) (imm : Imm) : Statement (.adcRmImm rm imm) :=
  operandImmediate .r2 rm imm [opW 0x80 (immWidth imm)] rfl rfl

theorem adcRmImm8 (rm : RM) (b : Byte) : Statement (.adcRmImm8 rm b) := operandByte .r2 rm b [0x83] rfl rfl

theorem sbbRmReg (w : Width) (rm : RM) (r : RegNum) : Statement (.sbbRmReg w rm r) := operand 1 r rm rfl rfl

theorem sbbRegRm (w : Width) (r : RegNum) (rm : RM) : Statement (.sbbRegRm w r rm) := operand 1 r rm rfl rfl

theorem sbbAcc (imm : Imm) : Statement (.sbbAcc imm) := immediate 1 imm rfl rfl

theorem sbbRmImm (rm : RM) (imm : Imm) : Statement (.sbbRmImm rm imm) :=
  operandImmediate .r3 rm imm [opW 0x80 (immWidth imm)] rfl rfl

theorem sbbRmImm8 (rm : RM) (b : Byte) : Statement (.sbbRmImm8 rm b) := operandByte .r3 rm b [0x83] rfl rfl

theorem andRmReg (w : Width) (rm : RM) (r : RegNum) : Statement (.andRmReg w rm r) := operand 1 r rm rfl rfl

theorem andRegRm (w : Width) (r : RegNum) (rm : RM) : Statement (.andRegRm w r rm) := operand 1 r rm rfl rfl

theorem andAcc (imm : Imm) : Statement (.andAcc imm) := immediate 1 imm rfl rfl

theorem andRmImm (rm : RM) (imm : Imm) : Statement (.andRmImm rm imm) :=
  operandImmediate .r4 rm imm [opW 0x80 (immWidth imm)] rfl rfl

theorem andRmImm8 (rm : RM) (b : Byte) : Statement (.andRmImm8 rm b) := operandByte .r4 rm b [0x83] rfl rfl

theorem subRmReg (w : Width) (rm : RM) (r : RegNum) : Statement (.subRmReg w rm r) := operand 1 r rm rfl rfl

theorem subRegRm (w : Width) (r : RegNum) (rm : RM) : Statement (.subRegRm w r rm) := operand 1 r rm rfl rfl

theorem subAcc (imm : Imm) : Statement (.subAcc imm) := immediate 1 imm rfl rfl

theorem subRmImm (rm : RM) (imm : Imm) : Statement (.subRmImm rm imm) :=
  operandImmediate .r5 rm imm [opW 0x80 (immWidth imm)] rfl rfl

theorem subRmImm8 (rm : RM) (b : Byte) : Statement (.subRmImm8 rm b) := operandByte .r5 rm b [0x83] rfl rfl

theorem xorRmReg (w : Width) (rm : RM) (r : RegNum) : Statement (.xorRmReg w rm r) := operand 1 r rm rfl rfl

theorem xorRegRm (w : Width) (r : RegNum) (rm : RM) : Statement (.xorRegRm w r rm) := operand 1 r rm rfl rfl

theorem xorAcc (imm : Imm) : Statement (.xorAcc imm) := immediate 1 imm rfl rfl

theorem xorRmImm (rm : RM) (imm : Imm) : Statement (.xorRmImm rm imm) :=
  operandImmediate .r6 rm imm [opW 0x80 (immWidth imm)] rfl rfl

theorem cmpRmReg (w : Width) (rm : RM) (r : RegNum) : Statement (.cmpRmReg w rm r) := operand 1 r rm rfl rfl

theorem cmpRegRm (w : Width) (r : RegNum) (rm : RM) : Statement (.cmpRegRm w r rm) := operand 1 r rm rfl rfl

theorem cmpAcc (imm : Imm) : Statement (.cmpAcc imm) := immediate 1 imm rfl rfl

theorem cmpRmImm (rm : RM) (imm : Imm) : Statement (.cmpRmImm rm imm) :=
  operandImmediate .r7 rm imm [opW 0x80 (immWidth imm)] rfl rfl

theorem cmpRmImm8 (rm : RM) (b : Byte) : Statement (.cmpRmImm8 rm b) := operandByte .r7 rm b [0x83] rfl rfl

theorem pushEs : Statement .pushEs := fixed 1 rfl rfl

theorem popEs : Statement .popEs := fixed 1 rfl rfl

theorem overrideEs : Statement .overrideEs := fixed 1 rfl rfl

theorem pushCs : Statement .pushCs := fixed 1 rfl rfl

theorem overrideCs : Statement .overrideCs := fixed 1 rfl rfl

theorem pushSs : Statement .pushSs := fixed 1 rfl rfl

theorem popSs : Statement .popSs := fixed 1 rfl rfl

theorem overrideSs : Statement .overrideSs := fixed 1 rfl rfl

theorem pushDs : Statement .pushDs := fixed 1 rfl rfl

theorem popDs : Statement .popDs := fixed 1 rfl rfl

theorem overrideDs : Statement .overrideDs := fixed 1 rfl rfl

theorem daa : Statement .daa := fixed 1 rfl rfl

theorem das : Statement .das := fixed 1 rfl rfl

theorem aaa : Statement .aaa := fixed 1 rfl rfl

theorem aas : Statement .aas := fixed 1 rfl rfl

theorem incReg (r : RegNum) : Statement (.incReg r) := fixed 1 rfl rfl

theorem decReg (r : RegNum) : Statement (.decReg r) := fixed 1 rfl rfl

theorem pushReg (r : RegNum) : Statement (.pushReg r) := fixed 1 rfl rfl

theorem popReg (r : RegNum) : Statement (.popReg r) := fixed 1 rfl rfl

theorem pusha : Statement .pusha := fixed 1 rfl rfl

theorem popa : Statement .popa := fixed 1 rfl rfl

theorem bound (r : RegNum) (m : MemEA) : Statement (.bound r m) := operand 1 r (.mem m) rfl rfl

theorem pushImm (v : Word) : Statement (.pushImm v) := fixed 3 rfl rfl

theorem pushImm8 (b : Byte) : Statement (.pushImm8 b) := fixed 2 rfl rfl

theorem ins (w : Width) : Statement (.ins w) := fixed 1 rfl rfl

theorem outs (w : Width) : Statement (.outs w) := fixed 1 rfl rfl

theorem jo (b : Byte) : Statement (.jo b) := fixed 2 rfl rfl

theorem jno (b : Byte) : Statement (.jno b) := fixed 2 rfl rfl

theorem jb (b : Byte) : Statement (.jb b) := fixed 2 rfl rfl

theorem jnb (b : Byte) : Statement (.jnb b) := fixed 2 rfl rfl

theorem jz (b : Byte) : Statement (.jz b) := fixed 2 rfl rfl

theorem jnz (b : Byte) : Statement (.jnz b) := fixed 2 rfl rfl

theorem jbe (b : Byte) : Statement (.jbe b) := fixed 2 rfl rfl

theorem jnbe (b : Byte) : Statement (.jnbe b) := fixed 2 rfl rfl

theorem js (b : Byte) : Statement (.js b) := fixed 2 rfl rfl

theorem jns (b : Byte) : Statement (.jns b) := fixed 2 rfl rfl

theorem jp (b : Byte) : Statement (.jp b) := fixed 2 rfl rfl

theorem jnp (b : Byte) : Statement (.jnp b) := fixed 2 rfl rfl

theorem jl (b : Byte) : Statement (.jl b) := fixed 2 rfl rfl

theorem jnl (b : Byte) : Statement (.jnl b) := fixed 2 rfl rfl

theorem jle (b : Byte) : Statement (.jle b) := fixed 2 rfl rfl

theorem jnle (b : Byte) : Statement (.jnle b) := fixed 2 rfl rfl

theorem testRmReg (w : Width) (rm : RM) (r : RegNum) : Statement (.testRmReg w rm r) := operand 1 r rm rfl rfl

theorem xchgRmReg (w : Width) (rm : RM) (r : RegNum) : Statement (.xchgRmReg w rm r) := operand 1 r rm rfl rfl

theorem movRmReg (w : Width) (rm : RM) (r : RegNum) : Statement (.movRmReg w rm r) := operand 1 r rm rfl rfl

theorem movRegRm (w : Width) (r : RegNum) (rm : RM) : Statement (.movRegRm w r rm) := operand 1 r rm rfl rfl

theorem movRmSreg (rm : RM) (sr : SReg) : Statement (.movRmSreg rm sr) := operand 1 (sregField sr) rm rfl rfl

theorem lea (r : RegNum) (m : MemEA) : Statement (.lea r m) := operand 1 r (.mem m) rfl rfl

theorem movSregRm (sr : SReg) (rm : RM) : Statement (.movSregRm sr rm) := operand 1 (sregField sr) rm rfl rfl

theorem popRm (rm : RM) : Statement (.popRm rm) := operand 1 .r0 rm rfl rfl

theorem nop : Statement .nop := fixed 1 rfl rfl

theorem xchgAx (r : RegNum) : Statement (.xchgAx r) := fixed 1 rfl rfl

theorem cbw : Statement .cbw := fixed 1 rfl rfl

theorem cwd : Statement .cwd := fixed 1 rfl rfl

theorem wait : Statement .wait := fixed 1 rfl rfl

theorem pushf : Statement .pushf := fixed 1 rfl rfl

theorem popf : Statement .popf := fixed 1 rfl rfl

theorem sahf : Statement .sahf := fixed 1 rfl rfl

theorem lahf : Statement .lahf := fixed 1 rfl rfl

theorem callFar (off : Word) (seg : Word) : Statement (.callFar off seg) := fixed 5 rfl rfl

theorem movAccMem (w : Width) (off : Word) : Statement (.movAccMem w off) := fixed 3 rfl rfl

theorem movMemAcc (w : Width) (off : Word) : Statement (.movMemAcc w off) := fixed 3 rfl rfl

theorem movs (w : Width) : Statement (.movs w) := fixed 1 rfl rfl

theorem cmps (w : Width) : Statement (.cmps w) := fixed 1 rfl rfl

theorem stos (w : Width) : Statement (.stos w) := fixed 1 rfl rfl

theorem lods (w : Width) : Statement (.lods w) := fixed 1 rfl rfl

theorem scas (w : Width) : Statement (.scas w) := fixed 1 rfl rfl

theorem testAcc (imm : Imm) : Statement (.testAcc imm) := immediate 1 imm rfl rfl

theorem movRegImm (r : RegNum) (imm : Imm) : Statement (.movRegImm r imm) := immediate 1 imm rfl rfl

theorem retImm (v : Word) : Statement (.retImm v) := fixed 3 rfl rfl

theorem ret : Statement .ret := fixed 1 rfl rfl

theorem les (r : RegNum) (m : MemEA) : Statement (.les r m) := operand 1 r (.mem m) rfl rfl

theorem lds (r : RegNum) (m : MemEA) : Statement (.lds r m) := operand 1 r (.mem m) rfl rfl

theorem movRmImm (rm : RM) (imm : Imm) : Statement (.movRmImm rm imm) :=
  operandImmediate .r0 rm imm [opW 0xC6 (immWidth imm)] rfl rfl

theorem enter (v : Word) (b : Byte) : Statement (.enter v b) := fixed 4 rfl rfl

theorem leave : Statement .leave := fixed 1 rfl rfl

theorem retfImm (v : Word) : Statement (.retfImm v) := fixed 3 rfl rfl

theorem retf : Statement .retf := fixed 1 rfl rfl

theorem int3 : Statement .int3 := fixed 1 rfl rfl

theorem intN (b : Byte) : Statement (.intN b) := fixed 2 rfl rfl

theorem into : Statement .into := fixed 1 rfl rfl

theorem iret : Statement .iret := fixed 1 rfl rfl

theorem rol (w : Width) (n : ShiftBy) (rm : RM) : Statement (.rol w n rm) := operand 1 .r0 rm rfl rfl

theorem ror (w : Width) (n : ShiftBy) (rm : RM) : Statement (.ror w n rm) := operand 1 .r1 rm rfl rfl

theorem rcl (w : Width) (n : ShiftBy) (rm : RM) : Statement (.rcl w n rm) := operand 1 .r2 rm rfl rfl

theorem rcr (w : Width) (n : ShiftBy) (rm : RM) : Statement (.rcr w n rm) := operand 1 .r3 rm rfl rfl

theorem shl (w : Width) (n : ShiftBy) (rm : RM) : Statement (.shl w n rm) := operand 1 .r4 rm rfl rfl

theorem shr (w : Width) (n : ShiftBy) (rm : RM) : Statement (.shr w n rm) := operand 1 .r5 rm rfl rfl

theorem sar (w : Width) (n : ShiftBy) (rm : RM) : Statement (.sar w n rm) := operand 1 .r7 rm rfl rfl

theorem aam : Statement .aam := fixed 2 rfl rfl

theorem aad : Statement .aad := fixed 2 rfl rfl

theorem setalc : Statement .setalc := fixed 1 rfl rfl

theorem xlat : Statement .xlat := fixed 1 rfl rfl

theorem esc (t : BitVec 3) (l : BitVec 3) (rm : RM) : Statement (.esc t l rm) := operand 1 (RegNum.ofBits l) rm rfl rfl

theorem loopne (b : Byte) : Statement (.loopne b) := fixed 2 rfl rfl

theorem loope (b : Byte) : Statement (.loope b) := fixed 2 rfl rfl

theorem loop (b : Byte) : Statement (.loop b) := fixed 2 rfl rfl

theorem jcxz (b : Byte) : Statement (.jcxz b) := fixed 2 rfl rfl

theorem inImm (w : Width) (b : Byte) : Statement (.inImm w b) := fixed 2 rfl rfl

theorem outImm (w : Width) (b : Byte) : Statement (.outImm w b) := fixed 2 rfl rfl

theorem callNear (v : Word) : Statement (.callNear v) := fixed 3 rfl rfl

theorem jmpNear (v : Word) : Statement (.jmpNear v) := fixed 3 rfl rfl

theorem jmpFar (off : Word) (seg : Word) : Statement (.jmpFar off seg) := fixed 5 rfl rfl

theorem jmpShort (b : Byte) : Statement (.jmpShort b) := fixed 2 rfl rfl

theorem inDx (w : Width) : Statement (.inDx w) := fixed 1 rfl rfl

theorem outDx (w : Width) : Statement (.outDx w) := fixed 1 rfl rfl

theorem lock : Statement .lock := fixed 1 rfl rfl

theorem repne : Statement .repne := fixed 1 rfl rfl

theorem rep : Statement .rep := fixed 1 rfl rfl

theorem hlt : Statement .hlt := fixed 1 rfl rfl

theorem cmc : Statement .cmc := fixed 1 rfl rfl

theorem testRmImm (rm : RM) (imm : Imm) : Statement (.testRmImm rm imm) :=
  operandImmediate .r0 rm imm [opW 0xF6 (immWidth imm)] rfl rfl

theorem notRm (w : Width) (rm : RM) : Statement (.notRm w rm) := operand 1 .r2 rm rfl rfl

theorem neg (w : Width) (rm : RM) : Statement (.neg w rm) := operand 1 .r3 rm rfl rfl

theorem mul (w : Width) (rm : RM) : Statement (.mul w rm) := operand 1 .r4 rm rfl rfl

theorem imul (w : Width) (rm : RM) : Statement (.imul w rm) := operand 1 .r5 rm rfl rfl

theorem div (w : Width) (rm : RM) : Statement (.div w rm) := operand 1 .r6 rm rfl rfl

theorem idiv (w : Width) (rm : RM) : Statement (.idiv w rm) := operand 1 .r7 rm rfl rfl

theorem clc : Statement .clc := fixed 1 rfl rfl

theorem stc : Statement .stc := fixed 1 rfl rfl

theorem cli : Statement .cli := fixed 1 rfl rfl

theorem sti : Statement .sti := fixed 1 rfl rfl

theorem cld : Statement .cld := fixed 1 rfl rfl

theorem std : Statement .std := fixed 1 rfl rfl

theorem incRm (w : Width) (rm : RM) : Statement (.incRm w rm) := operand 1 .r0 rm rfl rfl

theorem decRm (w : Width) (rm : RM) : Statement (.decRm w rm) := operand 1 .r1 rm rfl rfl

theorem callRm (rm : RM) : Statement (.callRm rm) := operand 1 .r2 rm rfl rfl

theorem callFarMem (m : MemEA) : Statement (.callFarMem m) := operand 1 .r3 (.mem m) rfl rfl

theorem jmpRm (rm : RM) : Statement (.jmpRm rm) := operand 1 .r4 rm rfl rfl

theorem jmpFarMem (m : MemEA) : Statement (.jmpFarMem m) := operand 1 .r5 (.mem m) rfl rfl

theorem pushRm (rm : RM) : Statement (.pushRm rm) := operand 1 .r6 rm rfl rfl

theorem faddMem (z : X87Size) (m : MemEA) : Statement (.faddMem z m) := operand 1 .r0 (.mem m) rfl rfl

theorem fcomMem (z : X87Size) (m : MemEA) : Statement (.fcomMem z m) := operand 1 .r2 (.mem m) rfl rfl

theorem fcompMem (z : X87Size) (m : MemEA) : Statement (.fcompMem z m) := operand 1 .r3 (.mem m) rfl rfl

theorem fdivMem (z : X87Size) (m : MemEA) : Statement (.fdivMem z m) := operand 1 .r6 (.mem m) rfl rfl

theorem fdivrMem (z : X87Size) (m : MemEA) : Statement (.fdivrMem z m) := operand 1 .r7 (.mem m) rfl rfl

theorem faddReg (r : RegNum) : Statement (.faddReg r) := fixed 2 rfl rfl

theorem fcomReg (r : RegNum) : Statement (.fcomReg r) := fixed 2 rfl rfl

theorem fcompReg (r : RegNum) : Statement (.fcompReg r) := fixed 2 rfl rfl

theorem fdivReg (r : RegNum) : Statement (.fdivReg r) := fixed 2 rfl rfl

theorem fdivrReg (r : RegNum) : Statement (.fdivrReg r) := fixed 2 rfl rfl

theorem fchs : Statement .fchs := fixed 2 rfl rfl

theorem fabs : Statement .fabs := fixed 2 rfl rfl

theorem f2xm1 : Statement .f2xm1 := fixed 2 rfl rfl

theorem fdecstp : Statement .fdecstp := fixed 2 rfl rfl

theorem fcos : Statement .fcos := fixed 2 rfl rfl

theorem fiaddMem (z : X87Size) (m : MemEA) : Statement (.fiaddMem z m) := operand 1 .r0 (.mem m) rfl rfl

theorem fcmovb (r : RegNum) : Statement (.fcmovb r) := fixed 2 rfl rfl

theorem fcmove (r : RegNum) : Statement (.fcmove r) := fixed 2 rfl rfl

theorem fcmovbe (r : RegNum) : Statement (.fcmovbe r) := fixed 2 rfl rfl

theorem fcmovu (r : RegNum) : Statement (.fcmovu r) := fixed 2 rfl rfl

theorem fcmovnb (r : RegNum) : Statement (.fcmovnb r) := fixed 2 rfl rfl

theorem fcmovne (r : RegNum) : Statement (.fcmovne r) := fixed 2 rfl rfl

theorem fcmovnbe (r : RegNum) : Statement (.fcmovnbe r) := fixed 2 rfl rfl

theorem fcmovnu (r : RegNum) : Statement (.fcmovnu r) := fixed 2 rfl rfl

theorem fsetpm : Statement .fsetpm := fixed 2 rfl rfl

theorem fucomi (r : RegNum) : Statement (.fucomi r) := fixed 2 rfl rfl

theorem fcomi (r : RegNum) : Statement (.fcomi r) := fixed 2 rfl rfl

theorem faddRegSt0 (r : RegNum) : Statement (.faddRegSt0 r) := fixed 2 rfl rfl

theorem fdivrRegSt0 (r : RegNum) : Statement (.fdivrRegSt0 r) := fixed 2 rfl rfl

theorem fdivRegSt0 (r : RegNum) : Statement (.fdivRegSt0 r) := fixed 2 rfl rfl

theorem ffree (r : RegNum) : Statement (.ffree r) := fixed 2 rfl rfl

theorem faddp (r : RegNum) : Statement (.faddp r) := fixed 2 rfl rfl

theorem fcompp : Statement .fcompp := fixed 2 rfl rfl

theorem fdivrp (r : RegNum) : Statement (.fdivrp r) := fixed 2 rfl rfl

theorem fdivp (r : RegNum) : Statement (.fdivp r) := fixed 2 rfl rfl

theorem fbld (m : MemEA) : Statement (.fbld m) := operand 1 .r4 (.mem m) rfl rfl

theorem fbstp (m : MemEA) : Statement (.fbstp m) := operand 1 .r6 (.mem m) rfl rfl

theorem ffreep (r : RegNum) : Statement (.ffreep r) := fixed 2 rfl rfl

theorem fucomip (r : RegNum) : Statement (.fucomip r) := fixed 2 rfl rfl

theorem fcomip (r : RegNum) : Statement (.fcomip r) := fixed 2 rfl rfl

theorem feni : Statement .feni := fixed 3 rfl rfl

theorem fdisi : Statement .fdisi := fixed 3 rfl rfl

theorem fclex : Statement .fclex := fixed 3 rfl rfl

theorem monitor : Statement .monitor := fixed 3 rfl rfl

theorem mwait : Statement .mwait := fixed 3 rfl rfl

theorem vmmcall : Statement .vmmcall := fixed 3 rfl rfl

theorem stgi : Statement .stgi := fixed 3 rfl rfl

theorem clgi : Statement .clgi := fixed 3 rfl rfl

theorem skinit : Statement .skinit := fixed 3 rfl rfl

theorem invlpga : Statement .invlpga := fixed 3 rfl rfl

theorem swapgs : Statement .swapgs := fixed 3 rfl rfl

theorem rdtscp : Statement .rdtscp := fixed 3 rfl rfl

theorem syscall : Statement .syscall := fixed 2 rfl rfl

theorem clts : Statement .clts := fixed 2 rfl rfl

theorem loadallSysret : Statement .loadallSysret := fixed 2 rfl rfl

theorem wbinvd : Statement .wbinvd := fixed 2 rfl rfl

theorem ud2 : Statement .ud2 := fixed 2 rfl rfl

theorem wrmsr : Statement .wrmsr := fixed 2 rfl rfl

theorem rdtsc : Statement .rdtsc := fixed 2 rfl rfl

theorem rdmsr : Statement .rdmsr := fixed 2 rfl rfl

theorem rdpmc : Statement .rdpmc := fixed 2 rfl rfl

theorem sysenter : Statement .sysenter := fixed 2 rfl rfl

theorem sysexit : Statement .sysexit := fixed 2 rfl rfl

theorem cmovo (r : RegNum) (rm : RM) : Statement (.cmovo r rm) := operand 2 r rm rfl rfl

theorem cmovno (r : RegNum) (rm : RM) : Statement (.cmovno r rm) := operand 2 r rm rfl rfl

theorem cmovb (r : RegNum) (rm : RM) : Statement (.cmovb r rm) := operand 2 r rm rfl rfl

theorem cmovnb (r : RegNum) (rm : RM) : Statement (.cmovnb r rm) := operand 2 r rm rfl rfl

theorem cmovz (r : RegNum) (rm : RM) : Statement (.cmovz r rm) := operand 2 r rm rfl rfl

theorem cmovnz (r : RegNum) (rm : RM) : Statement (.cmovnz r rm) := operand 2 r rm rfl rfl

theorem cmovbe (r : RegNum) (rm : RM) : Statement (.cmovbe r rm) := operand 2 r rm rfl rfl

theorem cmovnbe (r : RegNum) (rm : RM) : Statement (.cmovnbe r rm) := operand 2 r rm rfl rfl

theorem cmovs (r : RegNum) (rm : RM) : Statement (.cmovs r rm) := operand 2 r rm rfl rfl

theorem cmovns (r : RegNum) (rm : RM) : Statement (.cmovns r rm) := operand 2 r rm rfl rfl

theorem cmovp (r : RegNum) (rm : RM) : Statement (.cmovp r rm) := operand 2 r rm rfl rfl

theorem cmovnp (r : RegNum) (rm : RM) : Statement (.cmovnp r rm) := operand 2 r rm rfl rfl

theorem cmovl (r : RegNum) (rm : RM) : Statement (.cmovl r rm) := operand 2 r rm rfl rfl

theorem cmovnl (r : RegNum) (rm : RM) : Statement (.cmovnl r rm) := operand 2 r rm rfl rfl

theorem cmovle (r : RegNum) (rm : RM) : Statement (.cmovle r rm) := operand 2 r rm rfl rfl

theorem cmovnle (r : RegNum) (rm : RM) : Statement (.cmovnle r rm) := operand 2 r rm rfl rfl

theorem pushFs : Statement .pushFs := fixed 2 rfl rfl

theorem popFs : Statement .popFs := fixed 2 rfl rfl

theorem cpuid : Statement .cpuid := fixed 2 rfl rfl

theorem btRmReg (r : RegNum) (rm : RM) : Statement (.btRmReg r rm) := operand 2 r rm rfl rfl

theorem pushGs : Statement .pushGs := fixed 2 rfl rfl

theorem popGs : Statement .popGs := fixed 2 rfl rfl

theorem rsm : Statement .rsm := fixed 2 rfl rfl

theorem btsRmReg (r : RegNum) (rm : RM) : Statement (.btsRmReg r rm) := operand 2 r rm rfl rfl

theorem clflush (m : MemEA) : Statement (.clflush m) := operand 2 .r7 (.mem m) rfl rfl

theorem lfence : Statement .lfence := fixed 3 rfl rfl

theorem mfence : Statement .mfence := fixed 3 rfl rfl

theorem sfence : Statement .sfence := fixed 3 rfl rfl

theorem cmpxchgRm8 (r : RegNum) (rm : RM) : Statement (.cmpxchgRm8 r rm) := operand 2 r rm rfl rfl

theorem cmpxchgRm16 (r : RegNum) (rm : RM) : Statement (.cmpxchgRm16 r rm) := operand 2 r rm rfl rfl

theorem btrRmReg (r : RegNum) (rm : RM) : Statement (.btrRmReg r rm) := operand 2 r rm rfl rfl

theorem btRmImm (rm : RM) (b : Byte) : Statement (.btRmImm rm b) := operandByte .r4 rm b [0x0F, 0xBA] rfl rfl

theorem btsRmImm (rm : RM) (b : Byte) : Statement (.btsRmImm rm b) := operandByte .r5 rm b [0x0F, 0xBA] rfl rfl

theorem btrRmImm (rm : RM) (b : Byte) : Statement (.btrRmImm rm b) := operandByte .r6 rm b [0x0F, 0xBA] rfl rfl

theorem btcRmImm (rm : RM) (b : Byte) : Statement (.btcRmImm rm b) := operandByte .r7 rm b [0x0F, 0xBA] rfl rfl

theorem btcRmReg (r : RegNum) (rm : RM) : Statement (.btcRmReg r rm) := operand 2 r rm rfl rfl

theorem bsf (r : RegNum) (rm : RM) : Statement (.bsf r rm) := operand 2 r rm rfl rfl

theorem bsr (r : RegNum) (rm : RM) : Statement (.bsr r rm) := operand 2 r rm rfl rfl

theorem cmpxchg8b (m : MemEA) : Statement (.cmpxchg8b m) := operand 2 .r1 (.mem m) rfl rfl

theorem bswap (r : RegNum) : Statement (.bswap r) := fixed 2 rfl rfl

theorem oio : Statement .oio := fixed 2 rfl rfl

theorem arpl (r : RegNum) (rm : RM) : Statement (.arpl r rm) := operand 1 r rm rfl rfl

theorem smiIcebp : Statement .smiIcebp := fixed 1 rfl rfl

theorem pushad : Statement .pushad := fixed 2 rfl rfl

theorem popad : Statement .popad := fixed 2 rfl rfl

theorem insd : Statement .insd := fixed 2 rfl rfl

theorem outsd : Statement .outsd := fixed 2 rfl rfl

theorem cwde : Statement .cwde := fixed 2 rfl rfl

theorem cdq : Statement .cdq := fixed 2 rfl rfl

theorem pushfd : Statement .pushfd := fixed 2 rfl rfl

theorem popfd : Statement .popfd := fixed 2 rfl rfl

theorem movsd : Statement .movsd := fixed 2 rfl rfl

theorem cmpsd : Statement .cmpsd := fixed 2 rfl rfl

theorem stosd : Statement .stosd := fixed 2 rfl rfl

theorem lodsd : Statement .lodsd := fixed 2 rfl rfl

theorem scasd : Statement .scasd := fixed 2 rfl rfl

theorem crc32 (w : Width) (r : RegNum) (rm : RM) : Statement (.crc32 w r rm) := operand 4 r rm rfl rfl

theorem popcnt (r : RegNum) (rm : RM) : Statement (.popcnt r rm) := operand 3 r rm rfl rfl

theorem pause : Statement .pause := fixed 2 rfl rfl

theorem femms : Statement .femms := fixed 2 rfl rfl

theorem cvtpi2ps (r : RegNum) (rm : RM) : Statement (.cvtpi2ps r rm) := operand 2 r rm rfl rfl

theorem cvttps2pi (r : RegNum) (rm : RM) : Statement (.cvttps2pi r rm) := operand 2 r rm rfl rfl

theorem cvtps2pi (r : RegNum) (rm : RM) : Statement (.cvtps2pi r rm) := operand 2 r rm rfl rfl

theorem comiss (r : RegNum) (rm : RM) : Statement (.comiss r rm) := operand 2 r rm rfl rfl

theorem andps (r : RegNum) (rm : RM) : Statement (.andps r rm) := operand 2 r rm rfl rfl

theorem andnps (r : RegNum) (rm : RM) : Statement (.andnps r rm) := operand 2 r rm rfl rfl

theorem addps (r : RegNum) (rm : RM) : Statement (.addps r rm) := operand 2 r rm rfl rfl

theorem cvtps2pd (r : RegNum) (rm : RM) : Statement (.cvtps2pd r rm) := operand 2 r rm rfl rfl

theorem cvtdq2ps (r : RegNum) (rm : RM) : Statement (.cvtdq2ps r rm) := operand 2 r rm rfl rfl

theorem divps (r : RegNum) (rm : RM) : Statement (.divps r rm) := operand 2 r rm rfl rfl

theorem emms : Statement .emms := fixed 2 rfl rfl

theorem cmpps (r : RegNum) (rm : RM) (b : Byte) : Statement (.cmpps r rm b) := operandByte r rm b [0x0F, 0xC2] rfl rfl

theorem cvtpi2pd (r : RegNum) (rm : RM) : Statement (.cvtpi2pd r rm) := operand 3 r rm rfl rfl

theorem cvttpd2pi (r : RegNum) (rm : RM) : Statement (.cvttpd2pi r rm) := operand 3 r rm rfl rfl

theorem cvtpd2pi (r : RegNum) (rm : RM) : Statement (.cvtpd2pi r rm) := operand 3 r rm rfl rfl

theorem comisd (r : RegNum) (rm : RM) : Statement (.comisd r rm) := operand 3 r rm rfl rfl

theorem blendvps (r : RegNum) (rm : RM) : Statement (.blendvps r rm) := operand 4 r rm rfl rfl

theorem blendvpd (r : RegNum) (rm : RM) : Statement (.blendvpd r rm) := operand 4 r rm rfl rfl

theorem aesimc (r : RegNum) (rm : RM) : Statement (.aesimc r rm) := operand 4 r rm rfl rfl

theorem aesenc (r : RegNum) (rm : RM) : Statement (.aesenc r rm) := operand 4 r rm rfl rfl

theorem aesenclast (r : RegNum) (rm : RM) : Statement (.aesenclast r rm) := operand 4 r rm rfl rfl

theorem aesdec (r : RegNum) (rm : RM) : Statement (.aesdec r rm) := operand 4 r rm rfl rfl

theorem aesdeclast (r : RegNum) (rm : RM) : Statement (.aesdeclast r rm) := operand 4 r rm rfl rfl

theorem blendps (r : RegNum) (rm : RM) (b : Byte) : Statement (.blendps r rm b) :=
  operandByte r rm b [0x66, 0x0F, 0x3A, 0x0C] rfl rfl

theorem blendpd (r : RegNum) (rm : RM) (b : Byte) : Statement (.blendpd r rm b) :=
  operandByte r rm b [0x66, 0x0F, 0x3A, 0x0D] rfl rfl

theorem dpps (r : RegNum) (rm : RM) (b : Byte) : Statement (.dpps r rm b) :=
  operandByte r rm b [0x66, 0x0F, 0x3A, 0x40] rfl rfl

theorem dppd (r : RegNum) (rm : RM) (b : Byte) : Statement (.dppd r rm b) :=
  operandByte r rm b [0x66, 0x0F, 0x3A, 0x41] rfl rfl

theorem aeskeygenassist (r : RegNum) (rm : RM) (b : Byte) : Statement (.aeskeygenassist r rm b) :=
  operandByte r rm b [0x66, 0x0F, 0x3A, 0xDF] rfl rfl

theorem andpd (r : RegNum) (rm : RM) : Statement (.andpd r rm) := operand 3 r rm rfl rfl

theorem andnpd (r : RegNum) (rm : RM) : Statement (.andnpd r rm) := operand 3 r rm rfl rfl

theorem addpd (r : RegNum) (rm : RM) : Statement (.addpd r rm) := operand 3 r rm rfl rfl

theorem cvtpd2ps (r : RegNum) (rm : RM) : Statement (.cvtpd2ps r rm) := operand 3 r rm rfl rfl

theorem cvtps2dq (r : RegNum) (rm : RM) : Statement (.cvtps2dq r rm) := operand 3 r rm rfl rfl

theorem divpd (r : RegNum) (rm : RM) : Statement (.divpd r rm) := operand 3 r rm rfl rfl

theorem cmppd (r : RegNum) (rm : RM) (b : Byte) : Statement (.cmppd r rm b) := operandByte r rm b [0x66, 0x0F, 0xC2] rfl rfl

theorem addsubpd (r : RegNum) (rm : RM) : Statement (.addsubpd r rm) := operand 3 r rm rfl rfl

theorem cvttpd2dq (r : RegNum) (rm : RM) : Statement (.cvttpd2dq r rm) := operand 3 r rm rfl rfl

theorem cvtsi2sd (r : RegNum) (rm : RM) : Statement (.cvtsi2sd r rm) := operand 3 r rm rfl rfl

theorem cvttsd2si (r : RegNum) (rm : RM) : Statement (.cvttsd2si r rm) := operand 3 r rm rfl rfl

theorem cvtsd2si (r : RegNum) (rm : RM) : Statement (.cvtsd2si r rm) := operand 3 r rm rfl rfl

theorem addsd (r : RegNum) (rm : RM) : Statement (.addsd r rm) := operand 3 r rm rfl rfl

theorem cvtsd2ss (r : RegNum) (rm : RM) : Statement (.cvtsd2ss r rm) := operand 3 r rm rfl rfl

theorem divsd (r : RegNum) (rm : RM) : Statement (.divsd r rm) := operand 3 r rm rfl rfl

theorem cmpsdScalar (r : RegNum) (rm : RM) (b : Byte) : Statement (.cmpsdScalar r rm b) :=
  operandByte r rm b [0xF2, 0x0F, 0xC2] rfl rfl

theorem addsubps (r : RegNum) (rm : RM) : Statement (.addsubps r rm) := operand 3 r rm rfl rfl

theorem cvtpd2dq (r : RegNum) (rm : RM) : Statement (.cvtpd2dq r rm) := operand 3 r rm rfl rfl

theorem cvtsi2ss (r : RegNum) (rm : RM) : Statement (.cvtsi2ss r rm) := operand 3 r rm rfl rfl

theorem cvttss2si (r : RegNum) (rm : RM) : Statement (.cvttss2si r rm) := operand 3 r rm rfl rfl

theorem cvtss2si (r : RegNum) (rm : RM) : Statement (.cvtss2si r rm) := operand 3 r rm rfl rfl

theorem addss (r : RegNum) (rm : RM) : Statement (.addss r rm) := operand 3 r rm rfl rfl

theorem cvtss2sd (r : RegNum) (rm : RM) : Statement (.cvtss2sd r rm) := operand 3 r rm rfl rfl

theorem cvttps2dq (r : RegNum) (rm : RM) : Statement (.cvttps2dq r rm) := operand 3 r rm rfl rfl

theorem divss (r : RegNum) (rm : RM) : Statement (.divss r rm) := operand 3 r rm rfl rfl

theorem cmpss (r : RegNum) (rm : RM) (b : Byte) : Statement (.cmpss r rm b) := operandByte r rm b [0xF3, 0x0F, 0xC2] rfl rfl

theorem cvtdq2pd (r : RegNum) (rm : RM) : Statement (.cvtdq2pd r rm) := operand 3 r rm rfl rfl

theorem overrideFs : Statement .overrideFs := fixed 1 rfl rfl

theorem overrideGs : Statement .overrideGs := fixed 1 rfl rfl

theorem operandSize : Statement .operandSize := fixed 1 rfl rfl

end Sys2Proof.Laws.EncodeLength
end

