-- ==== Sys2Proof/Tests/Slice0.lean ====
section
/-! SUPPORT. Tests of the model: its own checks, the vectors of spec/95_test_vectors.md, and a witness for every statement that
has hypotheses. -/
namespace Sys2Proof.Tests
open Sys2Proof.Machine

/-! ### Well-formedness: an ill-formed term for each check, which the check refuses -/

/-- BP without a displacement is the direct address's encoding (30_encoding.md R131). -/
theorem test_wf_refuses_base_bp : (Instr.movRmReg .word (.mem (.base .bp)) .r0).wf .l8086 = false ∧
    (Instr.lea .r0 (.base .bp)).wf .l8086 = false ∧ (Instr.movRmReg .word (.mem (.base .di)) .r0).wf .l8086 = true := by decide

/-- 90h is NOP (30_encoding.md R165). -/
theorem test_wf_refuses_xchg_ax_ax : (Instr.xchgAx .r0).wf .l8086 = false ∧ (Instr.xchgAx .r1).wf .l8086 = true := by decide

/-- CS is no destination of MOV (30_encoding.md R180). -/
theorem test_wf_refuses_mov_cs : (Instr.movSregRm .cs (.reg .r0)).wf .l8086 = false ∧
    (Instr.movRmSreg (.reg .r0) .cs).wf .l8086 = true := by decide

/-- At LX86 a named x87 encoding is no ESC (45_flag_processor_control.md R443). -/
theorem test_wf_refuses_named_esc : (Instr.esc 0 0 (.reg .r0)).wf .lx86 = false ∧ (Instr.esc 0 0 (.reg .r0)).wf .l8086 = true := by
  decide

/-- The level gate (30_encoding.md R165). -/
theorem test_wf_refuses_later_levels : Instr.pusha.wf .l8086 = false ∧ Instr.pusha.wf .l186 = true ∧
    Instr.cpuid.wf .l186 = false ∧ Instr.cpuid.wf .lx86 = true := by decide

/-! ### Decoding -/

/-- Each of the byte sequences decodes to the instruction beside it, with no byte left. -/
def decodesTo (lvl : Level) (l : List (List Byte × Instr)) : Bool :=
  l.all fun p => decide (decode lvl p.1 = .ok (p.2, []))

/-- Each of the byte sequences is refused. -/
def refuses (lvl : Level) (l : List (List Byte)) : Bool :=
  l.all fun bs => match decode lvl bs with | .ok _ => false | .error e => e != .truncated

/-- 95_test_vectors.md section 6 and 30_encoding.md R180, R181. -/
theorem test_decode_refusals : refuses .l8086 [[0x0F], [0x60], [0xC0, 0xE0, 0x04], [0xF6, 0xC8, 0x01], [0xFE, 0xD0], [0xFF, 0xF8],
    [0x8E, 0xE0], [0x8E, 0xC8], [0x8D, 0xC0], [0xC4, 0xC0], [0xC5, 0xC0], [0xD4, 0x10], [0x83, 0xCB, 0x01], [0xD0, 0xF0],
    [0xF1], [0x64], [0x66]] = true ∧
    refuses .l186 [[0x0F], [0xC0, 0xE0, 0x04], [0x62, 0xC3]] = true := by decide

/-- The decoding vectors of 95_test_vectors.md section 6 and the worked examples of its section 2. -/
theorem test_decode_vectors : decodesTo .l8086 [
    ([0x8B, 0x46, 0xFE], .movRegRm .word .r0 (.mem (.disp8 .bp 0xFE))), ([0x8B, 0x06, 0x34, 0x12], .movRegRm .word .r0 (.mem (.direct 0x1234))),
    ([0x8B, 0x00], .movRegRm .word .r0 (.mem (.base .bxsi))), ([0x8B, 0x80, 0x34, 0x12], .movRegRm .word .r0 (.mem (.disp16 .bxsi 0x1234))),
    ([0x8B, 0xC3], .movRegRm .word .r0 (.reg .r3)), ([0x81, 0x06, 0x00, 0x01, 0x34, 0x12], .addRmImm (.mem (.direct 0x100)) (.iw 0x1234)),
    ([0x83, 0x06, 0x00, 0x01, 0xFF], .addRmImm8 (.mem (.direct 0x100)) 0xFF), ([0x80, 0x06, 0x00, 0x01, 0xFF], .addRmImm (.mem (.direct 0x100)) (.ib 0xFF)),
    ([0x90], .nop), ([0xCD, 0x03], .intN 3), ([0xD4, 0x0A], .aam), ([0xD6], .setalc), ([0x03, 0x04], .addRegRm .word .r0 (.mem (.base .si))),
    ([0x01, 0x81, 0x34, 0x12], .addRmReg .word (.mem (.disp16 .bxdi 0x1234)) .r0), ([0x89, 0x96, 0x34, 0x12], .movRmReg .word (.mem (.disp16 .bp 0x1234)) .r2),
    ([0x88, 0x4F, 0x10], .movRmReg .byte (.mem (.disp8 .bx 0x10)) .r1), ([0x88, 0xDD], .movRmReg .byte (.reg .r5) .r3),
    ([0xB8, 0x01, 0x00], .movRegImm .r0 (.iw 1)), ([0xB1, 0x03], .movRegImm .r1 (.ib 3)), ([0x8F, 0x05], .popRm (.mem (.base .di))),
    ([0xFE, 0xC6], .incRm .byte (.reg .r6)), ([0xFE, 0x44, 0xFC], .incRm .byte (.mem (.disp8 .si 0xFC))), ([0xFF, 0xC7], .incRm .word (.reg .r7)),
    ([0xA0, 0xF4, 0x34], .movAccMem .byte 0x34F4)] = true := by decide

/-- Table words: 89 D8; ENTER with its operand bytes zero; FCLEX; LOCK; a word that no row has. -/
theorem test_decode_table_words : decodeTableWord 16 0xD889 = some (.movRmReg .word (.reg .r0) .r3) ∧
    decodeTableWord 8 0xC8 = some (.enter 0 0) ∧ decodeTableWord 24 0xE2DB9B = some .fclex ∧ decodeTableWord 8 0xF0 = some .lock ∧
    decodeTableWord 16 0x08FE = some (.decRm .byte (.mem (.base .bxsi))) ∧ decodeTableWord 16 0xF8FF = none := by decide

/-! Every row of the opcode table, with operands chosen by hand and its bytes laid out from the row's match bytes and the
field rules of 30_encoding.md R125 to R161; the first of each list is written bit by bit. -/

theorem test_decode_two_operand : decodesTo .l8086 [
    ([0b00000001, 0b01011110, 0b11111110], .addRmReg .word (.mem (.disp8 .bp 0xFE)) .r3),
    ([0x02, 0xFE], .addRegRm .byte .r7 (.reg .r6)),
    ([0x04, 0x81], .addAcc (.ib 0x81)),
    ([0x81, 0xC3, 0x01, 0x80], .addRmImm (.reg .r3) (.iw 0x8001)),
    ([0x83, 0x46, 0xFE, 0xF9], .addRmImm8 (.mem (.disp8 .bp 0xFE)) 0xF9),
    ([0x09, 0x3E, 0x34, 0x12], .orRmReg .word (.mem (.direct 0x1234)) .r7),
    ([0x0A, 0x56, 0xFE], .orRegRm .byte .r2 (.mem (.disp8 .bp 0xFE))),
    ([0x0D, 0x01, 0x80], .orAcc (.iw 0x8001)),
    ([0x80, 0x08, 0x81], .orRmImm (.mem (.base .bxsi)) (.ib 0x81)),
    ([0x10, 0x85, 0x34, 0x12], .adcRmReg .byte (.mem (.disp16 .di 0x1234)) .r0),
    ([0x13, 0x18], .adcRegRm .word .r3 (.mem (.base .bxsi))),
    ([0x14, 0x81], .adcAcc (.ib 0x81)),
    ([0x81, 0xD7, 0x01, 0x80], .adcRmImm (.reg .r7) (.iw 0x8001)),
    ([0x83, 0x56, 0xFE, 0xF9], .adcRmImm8 (.mem (.disp8 .bp 0xFE)) 0xF9),
    ([0x19, 0x1E, 0x34, 0x12], .sbbRmReg .word (.mem (.direct 0x1234)) .r3),
    ([0x1A, 0x76, 0xFE], .sbbRegRm .byte .r6 (.mem (.disp8 .bp 0xFE))),
    ([0x1D, 0x01, 0x80], .sbbAcc (.iw 0x8001)),
    ([0x80, 0x18, 0x81], .sbbRmImm (.mem (.base .bxsi)) (.ib 0x81)),
    ([0x83, 0x5E, 0xFE, 0xF9], .sbbRmImm8 (.mem (.disp8 .bp 0xFE)) 0xF9),
    ([0x21, 0x2E, 0x34, 0x12], .andRmReg .word (.mem (.direct 0x1234)) .r5),
    ([0x22, 0x46, 0xFE], .andRegRm .byte .r0 (.mem (.disp8 .bp 0xFE))),
    ([0x25, 0x01, 0x80], .andAcc (.iw 0x8001)),
    ([0x80, 0x20, 0x81], .andRmImm (.mem (.base .bxsi)) (.ib 0x81)),
    ([0x83, 0x66, 0xFE, 0xF9], .andRmImm8 (.mem (.disp8 .bp 0xFE)) 0xF9),
    ([0x29, 0x3E, 0x34, 0x12], .subRmReg .word (.mem (.direct 0x1234)) .r7),
    ([0x2A, 0x56, 0xFE], .subRegRm .byte .r2 (.mem (.disp8 .bp 0xFE))),
    ([0x2D, 0x01, 0x80], .subAcc (.iw 0x8001)),
    ([0x80, 0x28, 0x81], .subRmImm (.mem (.base .bxsi)) (.ib 0x81)),
    ([0x83, 0x6E, 0xFE, 0xF9], .subRmImm8 (.mem (.disp8 .bp 0xFE)) 0xF9),
    ([0x31, 0x0E, 0x34, 0x12], .xorRmReg .word (.mem (.direct 0x1234)) .r1),
    ([0x32, 0x66, 0xFE], .xorRegRm .byte .r4 (.mem (.disp8 .bp 0xFE))),
    ([0x35, 0x01, 0x80], .xorAcc (.iw 0x8001)),
    ([0x80, 0x30, 0x81], .xorRmImm (.mem (.base .bxsi)) (.ib 0x81)),
    ([0x38, 0x95, 0x34, 0x12], .cmpRmReg .byte (.mem (.disp16 .di 0x1234)) .r2),
    ([0x3B, 0x28], .cmpRegRm .word .r5 (.mem (.base .bxsi))),
    ([0x3C, 0x81], .cmpAcc (.ib 0x81)),
    ([0x81, 0xF9, 0x01, 0x80], .cmpRmImm (.reg .r1) (.iw 0x8001)),
    ([0x83, 0x7E, 0xFE, 0xF9], .cmpRmImm8 (.mem (.disp8 .bp 0xFE)) 0xF9)] = true := by decide

theorem test_decode_stack_adjust_and_registers : decodesTo .l8086 [
    ([0b00000110], .pushEs),
    ([0x07], .popEs),
    ([0x26], .overrideEs),
    ([0x0E], .pushCs),
    ([0x2E], .overrideCs),
    ([0x16], .pushSs),
    ([0x17], .popSs),
    ([0x36], .overrideSs),
    ([0x1E], .pushDs),
    ([0x1F], .popDs),
    ([0x3E], .overrideDs),
    ([0x27], .daa),
    ([0x2F], .das),
    ([0x37], .aaa),
    ([0x3F], .aas),
    ([0x43], .incReg .r3),
    ([0x4C], .decReg .r4),
    ([0x55], .pushReg .r5),
    ([0x5E], .popReg .r6)] = true := by decide

theorem test_decode_jumps_moves_and_exchanges : decodesTo .l8086 [
    ([0b01110000, 0b11111001], .jo 0xF9),
    ([0x71, 0xF9], .jno 0xF9),
    ([0x72, 0xF9], .jb 0xF9),
    ([0x73, 0xF9], .jnb 0xF9),
    ([0x74, 0xF9], .jz 0xF9),
    ([0x75, 0xF9], .jnz 0xF9),
    ([0x76, 0xF9], .jbe 0xF9),
    ([0x77, 0xF9], .jnbe 0xF9),
    ([0x78, 0xF9], .js 0xF9),
    ([0x79, 0xF9], .jns 0xF9),
    ([0x7A, 0xF9], .jp 0xF9),
    ([0x7B, 0xF9], .jnp 0xF9),
    ([0x7C, 0xF9], .jl 0xF9),
    ([0x7D, 0xF9], .jnl 0xF9),
    ([0x7E, 0xF9], .jle 0xF9),
    ([0x7F, 0xF9], .jnle 0xF9),
    ([0x85, 0x8D, 0x34, 0x12], .testRmReg .word (.mem (.disp16 .di 0x1234)) .r1),
    ([0x86, 0x20], .xchgRmReg .byte (.mem (.base .bxsi)) .r4),
    ([0x89, 0x3E, 0x34, 0x12], .movRmReg .word (.mem (.direct 0x1234)) .r7),
    ([0x8A, 0x56, 0xFE], .movRegRm .byte .r2 (.mem (.disp8 .bp 0xFE))),
    ([0x8C, 0x06, 0x34, 0x12], .movRmSreg (.mem (.direct 0x1234)) .es),
    ([0x8D, 0x30], .lea .r6 (.base .bxsi)),
    ([0x8E, 0x85, 0x34, 0x12], .movSregRm .es (.mem (.disp16 .di 0x1234))),
    ([0x8F, 0xC2], .popRm (.reg .r2)),
    ([0x90], .nop),
    ([0x93], .xchgAx .r3),
    ([0x98], .cbw),
    ([0x99], .cwd),
    ([0x9B], .wait),
    ([0x9C], .pushf),
    ([0x9D], .popf),
    ([0x9E], .sahf),
    ([0x9F], .lahf)] = true := by decide

theorem test_decode_pointers_strings_and_returns : decodesTo .l8086 [
    ([0b10011010, 0b11001101, 0b10101011, 0b01101000, 0b00100100], .callFar 0xABCD 0x2468),
    ([0xA0, 0xCD, 0xAB], .movAccMem .byte 0xABCD),
    ([0xA3, 0xCD, 0xAB], .movMemAcc .word 0xABCD),
    ([0xA4], .movs .byte),
    ([0xA7], .cmps .word),
    ([0xAA], .stos .byte),
    ([0xAD], .lods .word),
    ([0xAE], .scas .byte),
    ([0xA9, 0x01, 0x80], .testAcc (.iw 0x8001)),
    ([0xB5, 0x81], .movRegImm .r5 (.ib 0x81)),
    ([0xC2, 0xCD, 0xAB], .retImm 0xABCD),
    ([0xC3], .ret),
    ([0xC4, 0xBD, 0x34, 0x12], .les .r7 (.disp16 .di 0x1234)),
    ([0xC5, 0x4E, 0xFE], .lds .r1 (.disp8 .bp 0xFE)),
    ([0xC6, 0x85, 0x34, 0x12, 0x81], .movRmImm (.mem (.disp16 .di 0x1234)) (.ib 0x81)),
    ([0xCA, 0xCD, 0xAB], .retfImm 0xABCD),
    ([0xCB], .retf),
    ([0xCC], .int3),
    ([0xCD, 0xF9], .intN 0xF9),
    ([0xCE], .into),
    ([0xCF], .iret),
    ([0xD2, 0x00], .rol .byte .cl (.mem (.base .bxsi))),
    ([0xD1, 0x0E, 0x34, 0x12], .ror .word .one (.mem (.direct 0x1234))),
    ([0xD2, 0x56, 0xFE], .rcl .byte .cl (.mem (.disp8 .bp 0xFE))),
    ([0xD1, 0xD8], .rcr .word .one (.reg .r0)),
    ([0xD1, 0x26, 0x34, 0x12], .shl .word .one (.mem (.direct 0x1234))),
    ([0xD2, 0x6E, 0xFE], .shr .byte .cl (.mem (.disp8 .bp 0xFE))),
    ([0xD1, 0xFA], .sar .word .one (.reg .r2)),
    ([0xD4, 0x0A], .aam),
    ([0xD5, 0x0A], .aad),
    ([0xD6], .setalc),
    ([0xD7], .xlat),
    ([0xDD, 0x1E, 0x34, 0x12], .esc 5 3 (.mem (.direct 0x1234)))] = true := by decide

theorem test_decode_loops_ports_and_flags : decodesTo .l8086 [
    ([0b11100000, 0b11111001], .loopne 0xF9),
    ([0xE1, 0xF9], .loope 0xF9),
    ([0xE2, 0xF9], .loop 0xF9),
    ([0xE3, 0xF9], .jcxz 0xF9),
    ([0xE5, 0xF9], .inImm .word 0xF9),
    ([0xE6, 0xF9], .outImm .byte 0xF9),
    ([0xE8, 0xCD, 0xAB], .callNear 0xABCD),
    ([0xE9, 0xCD, 0xAB], .jmpNear 0xABCD),
    ([0xEA, 0xCD, 0xAB, 0x68, 0x24], .jmpFar 0xABCD 0x2468),
    ([0xEB, 0xF9], .jmpShort 0xF9),
    ([0xED], .inDx .word),
    ([0xEE], .outDx .byte),
    ([0xF0], .lock),
    ([0xF2], .repne),
    ([0xF3], .rep),
    ([0xF4], .hlt),
    ([0xF5], .cmc),
    ([0xF7, 0x46, 0xFE, 0x01, 0x80], .testRmImm (.mem (.disp8 .bp 0xFE)) (.iw 0x8001)),
    ([0xF7, 0x16, 0x34, 0x12], .notRm .word (.mem (.direct 0x1234))),
    ([0xF7, 0x18], .neg .word (.mem (.base .bxsi))),
    ([0xF7, 0xA5, 0x34, 0x12], .mul .word (.mem (.disp16 .di 0x1234))),
    ([0xF7, 0xE9], .imul .word (.reg .r1)),
    ([0xF6, 0xB5, 0x34, 0x12], .div .byte (.mem (.disp16 .di 0x1234))),
    ([0xF6, 0xFE], .idiv .byte (.reg .r6)),
    ([0xF8], .clc),
    ([0xF9], .stc),
    ([0xFA], .cli),
    ([0xFB], .sti),
    ([0xFC], .cld),
    ([0xFD], .std),
    ([0xFF, 0x85, 0x34, 0x12], .incRm .word (.mem (.disp16 .di 0x1234))),
    ([0xFF, 0xCB], .decRm .word (.reg .r3)),
    ([0xFF, 0x56, 0xFE], .callRm (.mem (.disp8 .bp 0xFE))),
    ([0xFF, 0x9D, 0x34, 0x12], .callFarMem (.disp16 .di 0x1234)),
    ([0xFF, 0x26, 0x34, 0x12], .jmpRm (.mem (.direct 0x1234))),
    ([0xFF, 0x6E, 0xFE], .jmpFarMem (.disp8 .bp 0xFE)),
    ([0xFF, 0x30], .pushRm (.mem (.base .bxsi)))] = true := by decide

theorem test_decode_level_l186 : decodesTo .l186 [
    ([0b01100000], .pusha),
    ([0x61], .popa),
    ([0x62, 0x56, 0xFE], .bound .r2 (.disp8 .bp 0xFE)),
    ([0x68, 0xCD, 0xAB], .pushImm 0xABCD),
    ([0x6A, 0xF9], .pushImm8 0xF9),
    ([0x6D], .ins .word),
    ([0x6E], .outs .byte),
    ([0xC8, 0xCD, 0xAB, 0xF9], .enter 0xABCD 0xF9),
    ([0xC9], .leave)] = true := by decide

theorem test_decode_lx86_x87_memory_and_register : decodesTo .lx86 [
    ([0b11011000, 0b00000000], .faddMem .m32 (.base .bxsi)),
    ([0xD8, 0x56, 0xFE], .fcomMem .m32 (.disp8 .bp 0xFE)),
    ([0xD8, 0x9D, 0x34, 0x12], .fcompMem .m32 (.disp16 .di 0x1234)),
    ([0xD8, 0x36, 0x34, 0x12], .fdivMem .m32 (.direct 0x1234)),
    ([0xD8, 0x7E, 0xFE], .fdivrMem .m32 (.disp8 .bp 0xFE)),
    ([0xD8, 0xC2], .faddReg .r2),
    ([0xD8, 0xD3], .fcomReg .r3),
    ([0xD8, 0xDC], .fcompReg .r4),
    ([0xD8, 0xF5], .fdivReg .r5),
    ([0xD8, 0xFE], .fdivrReg .r6),
    ([0xD9, 0xE0], .fchs),
    ([0xD9, 0xE1], .fabs),
    ([0xD9, 0xF0], .f2xm1),
    ([0xD9, 0xF6], .fdecstp),
    ([0xD9, 0xFF], .fcos),
    ([0xDA, 0x00], .fiaddMem .m32 (.base .bxsi)),
    ([0xDA, 0xC0], .fcmovb .r0),
    ([0xDA, 0xC9], .fcmove .r1),
    ([0xDA, 0xD2], .fcmovbe .r2),
    ([0xDA, 0xDB], .fcmovu .r3),
    ([0xDB, 0xC4], .fcmovnb .r4),
    ([0xDB, 0xCD], .fcmovne .r5),
    ([0xDB, 0xD6], .fcmovnbe .r6),
    ([0xDB, 0xDF], .fcmovnu .r7),
    ([0xDB, 0xE4], .fsetpm),
    ([0xDB, 0xE8], .fucomi .r0),
    ([0xDB, 0xF1], .fcomi .r1)] = true := by decide

theorem test_decode_lx86_x87_and_system : decodesTo .lx86 [
    ([0b11011100, 0b01000110, 0b11111110], .faddMem .alt (.disp8 .bp 0xFE)),
    ([0xDC, 0x95, 0x34, 0x12], .fcomMem .alt (.disp16 .di 0x1234)),
    ([0xDC, 0x1E, 0x34, 0x12], .fcompMem .alt (.direct 0x1234)),
    ([0xDC, 0x76, 0xFE], .fdivMem .alt (.disp8 .bp 0xFE)),
    ([0xDC, 0x38], .fdivrMem .alt (.base .bxsi)),
    ([0xDC, 0xC7], .faddRegSt0 .r7),
    ([0xDC, 0xF0], .fdivrRegSt0 .r0),
    ([0xDC, 0xF9], .fdivRegSt0 .r1),
    ([0xDD, 0xC2], .ffree .r2),
    ([0xDE, 0x00], .fiaddMem .alt (.base .bxsi)),
    ([0xDE, 0xC4], .faddp .r4),
    ([0xDE, 0xD9], .fcompp),
    ([0xDE, 0xF5], .fdivrp .r5),
    ([0xDE, 0xFE], .fdivp .r6),
    ([0xDF, 0x66, 0xFE], .fbld (.disp8 .bp 0xFE)),
    ([0xDF, 0x30], .fbstp (.base .bxsi)),
    ([0xDF, 0xC1], .ffreep .r1),
    ([0xDF, 0xEA], .fucomip .r2),
    ([0xDF, 0xF3], .fcomip .r3),
    ([0x9B, 0xDB, 0xE0], .feni),
    ([0x9B, 0xDB, 0xE1], .fdisi),
    ([0x9B, 0xDB, 0xE2], .fclex),
    ([0x0F, 0x01, 0xC8], .monitor),
    ([0x0F, 0x01, 0xC9], .mwait),
    ([0x0F, 0x01, 0xD9], .vmmcall),
    ([0x0F, 0x01, 0xDC], .stgi),
    ([0x0F, 0x01, 0xDD], .clgi)] = true := by decide

theorem test_decode_lx86_system_and_conditional_moves : decodesTo .lx86 [
    ([0b00001111, 0b00000001, 0b11011110], .skinit),
    ([0x0F, 0x01, 0xDF], .invlpga),
    ([0x0F, 0x01, 0xF8], .swapgs),
    ([0x0F, 0x01, 0xF9], .rdtscp),
    ([0x0F, 0x05], .syscall),
    ([0x0F, 0x06], .clts),
    ([0x0F, 0x07], .loadallSysret),
    ([0x0F, 0x08], .wbinvd),
    ([0x0F, 0x0B], .ud2),
    ([0x0F, 0x30], .wrmsr),
    ([0x0F, 0x31], .rdtsc),
    ([0x0F, 0x32], .rdmsr),
    ([0x0F, 0x33], .rdpmc),
    ([0x0F, 0x34], .sysenter),
    ([0x0F, 0x35], .sysexit),
    ([0x0F, 0x40, 0xF5], .cmovo .r6 (.reg .r5)),
    ([0x0F, 0x41, 0x85, 0x34, 0x12], .cmovno .r0 (.mem (.disp16 .di 0x1234))),
    ([0x0F, 0x42, 0xDA], .cmovb .r3 (.reg .r2)),
    ([0x0F, 0x43, 0xAD, 0x34, 0x12], .cmovnb .r5 (.mem (.disp16 .di 0x1234))),
    ([0x0F, 0x44, 0xC7], .cmovz .r0 (.reg .r7)),
    ([0x0F, 0x45, 0x95, 0x34, 0x12], .cmovnz .r2 (.mem (.disp16 .di 0x1234))),
    ([0x0F, 0x46, 0xEC], .cmovbe .r5 (.reg .r4)),
    ([0x0F, 0x47, 0xBD, 0x34, 0x12], .cmovnbe .r7 (.mem (.disp16 .di 0x1234))),
    ([0x0F, 0x48, 0xD1], .cmovs .r2 (.reg .r1)),
    ([0x0F, 0x49, 0xA5, 0x34, 0x12], .cmovns .r4 (.mem (.disp16 .di 0x1234))),
    ([0x0F, 0x4A, 0xFE], .cmovp .r7 (.reg .r6)),
    ([0x0F, 0x4B, 0x8D, 0x34, 0x12], .cmovnp .r1 (.mem (.disp16 .di 0x1234)))] = true := by decide

theorem test_decode_lx86_bits_and_strings : decodesTo .lx86 [
    ([0b00001111, 0b01001100, 0b11100011], .cmovl .r4 (.reg .r3)),
    ([0x0F, 0x4D, 0xB5, 0x34, 0x12], .cmovnl .r6 (.mem (.disp16 .di 0x1234))),
    ([0x0F, 0x4E, 0xC8], .cmovle .r1 (.reg .r0)),
    ([0x0F, 0x4F, 0x9D, 0x34, 0x12], .cmovnle .r3 (.mem (.disp16 .di 0x1234))),
    ([0x0F, 0xA0], .pushFs),
    ([0x0F, 0xA1], .popFs),
    ([0x0F, 0xA2], .cpuid),
    ([0x0F, 0xA3, 0xF5], .btRmReg .r6 (.reg .r5)),
    ([0x0F, 0xA8], .pushGs),
    ([0x0F, 0xA9], .popGs),
    ([0x0F, 0xAA], .rsm),
    ([0x0F, 0xAB, 0x85, 0x34, 0x12], .btsRmReg .r0 (.mem (.disp16 .di 0x1234))),
    ([0x0F, 0xAE, 0x7E, 0xFE], .clflush (.disp8 .bp 0xFE)),
    ([0x0F, 0xAE, 0xE8], .lfence),
    ([0x0F, 0xAE, 0xF0], .mfence),
    ([0x0F, 0xAE, 0xF8], .sfence),
    ([0x0F, 0xB0, 0x18], .cmpxchgRm8 .r3 (.mem (.base .bxsi))),
    ([0x0F, 0xB1, 0xAD, 0x34, 0x12], .cmpxchgRm16 .r5 (.mem (.disp16 .di 0x1234))),
    ([0x0F, 0xB3, 0xC7], .btrRmReg .r0 (.reg .r7)),
    ([0x0F, 0xBA, 0xA5, 0x34, 0x12, 0xF9], .btRmImm (.mem (.disp16 .di 0x1234)) 0xF9),
    ([0x0F, 0xBA, 0x2E, 0x34, 0x12, 0xF9], .btsRmImm (.mem (.direct 0x1234)) 0xF9),
    ([0x0F, 0xBA, 0xF4, 0xF9], .btrRmImm (.reg .r4) 0xF9),
    ([0x0F, 0xBA, 0x7E, 0xFE, 0xF9], .btcRmImm (.mem (.disp8 .bp 0xFE)) 0xF9),
    ([0x0F, 0xBB, 0xBD, 0x34, 0x12], .btcRmReg .r7 (.mem (.disp16 .di 0x1234))),
    ([0x0F, 0xBC, 0xD1], .bsf .r2 (.reg .r1)),
    ([0x0F, 0xBD, 0xA5, 0x34, 0x12], .bsr .r4 (.mem (.disp16 .di 0x1234))),
    ([0x0F, 0xC7, 0x4E, 0xFE], .cmpxchg8b (.disp8 .bp 0xFE))] = true := by decide

theorem test_decode_lx86_simd_unprefixed_and_66 : decodesTo .lx86 [
    ([0b00001111, 0b11001110], .bswap .r6),
    ([0x0F, 0xFF], .oio),
    ([0x63, 0x46, 0xFE], .arpl .r0 (.mem (.disp8 .bp 0xFE))),
    ([0xF1], .smiIcebp),
    ([0x66, 0x60], .pushad),
    ([0x66, 0x61], .popad),
    ([0x66, 0x6C], .insd),
    ([0x66, 0x6F], .outsd),
    ([0x66, 0x98], .cwde),
    ([0x66, 0x99], .cdq),
    ([0x66, 0x9C], .pushfd),
    ([0x66, 0x9D], .popfd),
    ([0x66, 0xA5], .movsd),
    ([0x66, 0xA7], .cmpsd),
    ([0x66, 0xAB], .stosd),
    ([0x66, 0xAD], .lodsd),
    ([0x66, 0xAF], .scasd),
    ([0xF2, 0x0F, 0x38, 0xF0, 0xE3], .crc32 .byte .r4 (.reg .r3)),
    ([0xF2, 0x0F, 0x38, 0xF1, 0x3E, 0x34, 0x12], .crc32 .word .r7 (.mem (.direct 0x1234))),
    ([0xF3, 0x0F, 0xB8, 0x08], .popcnt .r1 (.mem (.base .bxsi))),
    ([0xF3, 0x90], .pause),
    ([0x0F, 0x0E], .femms),
    ([0x0F, 0x2A, 0x9D, 0x34, 0x12], .cvtpi2ps .r3 (.mem (.disp16 .di 0x1234))),
    ([0x0F, 0x2C, 0xF5], .cvttps2pi .r6 (.reg .r5)),
    ([0x0F, 0x2D, 0x85, 0x34, 0x12], .cvtps2pi .r0 (.mem (.disp16 .di 0x1234))),
    ([0x0F, 0x2F, 0xDA], .comiss .r3 (.reg .r2)),
    ([0x0F, 0x54, 0xAD, 0x34, 0x12], .andps .r5 (.mem (.disp16 .di 0x1234)))] = true := by decide

theorem test_decode_lx86_simd_66_and_f2 : decodesTo .lx86 [
    ([0b00001111, 0b01010101, 0b11000111], .andnps .r0 (.reg .r7)),
    ([0x0F, 0x58, 0x95, 0x34, 0x12], .addps .r2 (.mem (.disp16 .di 0x1234))),
    ([0x0F, 0x5A, 0xEC], .cvtps2pd .r5 (.reg .r4)),
    ([0x0F, 0x5B, 0xBD, 0x34, 0x12], .cvtdq2ps .r7 (.mem (.disp16 .di 0x1234))),
    ([0x0F, 0x5E, 0xD1], .divps .r2 (.reg .r1)),
    ([0x0F, 0x77], .emms),
    ([0x0F, 0xC2, 0xA5, 0x34, 0x12, 0xF9], .cmpps .r4 (.mem (.disp16 .di 0x1234)) 0xF9),
    ([0x66, 0x0F, 0x2A, 0xFE], .cvtpi2pd .r7 (.reg .r6)),
    ([0x66, 0x0F, 0x2C, 0x8D, 0x34, 0x12], .cvttpd2pi .r1 (.mem (.disp16 .di 0x1234))),
    ([0x66, 0x0F, 0x2D, 0xE3], .cvtpd2pi .r4 (.reg .r3)),
    ([0x66, 0x0F, 0x2F, 0xB5, 0x34, 0x12], .comisd .r6 (.mem (.disp16 .di 0x1234))),
    ([0x66, 0x0F, 0x38, 0x14, 0xC8], .blendvps .r1 (.reg .r0)),
    ([0x66, 0x0F, 0x38, 0x15, 0x9D, 0x34, 0x12], .blendvpd .r3 (.mem (.disp16 .di 0x1234))),
    ([0x66, 0x0F, 0x38, 0xDB, 0xF5], .aesimc .r6 (.reg .r5)),
    ([0x66, 0x0F, 0x38, 0xDC, 0x85, 0x34, 0x12], .aesenc .r0 (.mem (.disp16 .di 0x1234))),
    ([0x66, 0x0F, 0x38, 0xDD, 0xDA], .aesenclast .r3 (.reg .r2)),
    ([0x66, 0x0F, 0x38, 0xDE, 0xAD, 0x34, 0x12], .aesdec .r5 (.mem (.disp16 .di 0x1234))),
    ([0x66, 0x0F, 0x38, 0xDF, 0xC7], .aesdeclast .r0 (.reg .r7)),
    ([0x66, 0x0F, 0x3A, 0x0C, 0x95, 0x34, 0x12, 0xF9], .blendps .r2 (.mem (.disp16 .di 0x1234)) 0xF9),
    ([0x66, 0x0F, 0x3A, 0x0D, 0xEC, 0xF9], .blendpd .r5 (.reg .r4) 0xF9),
    ([0x66, 0x0F, 0x3A, 0x40, 0xBD, 0x34, 0x12, 0xF9], .dpps .r7 (.mem (.disp16 .di 0x1234)) 0xF9),
    ([0x66, 0x0F, 0x3A, 0x41, 0xD1, 0xF9], .dppd .r2 (.reg .r1) 0xF9),
    ([0x66, 0x0F, 0x3A, 0xDF, 0xA5, 0x34, 0x12, 0xF9], .aeskeygenassist .r4 (.mem (.disp16 .di 0x1234)) 0xF9),
    ([0x66, 0x0F, 0x54, 0xFE], .andpd .r7 (.reg .r6)),
    ([0x66, 0x0F, 0x55, 0x8D, 0x34, 0x12], .andnpd .r1 (.mem (.disp16 .di 0x1234))),
    ([0x66, 0x0F, 0x58, 0xE3], .addpd .r4 (.reg .r3)),
    ([0x66, 0x0F, 0x5A, 0xB5, 0x34, 0x12], .cvtpd2ps .r6 (.mem (.disp16 .di 0x1234)))] = true := by decide

theorem test_decode_lx86_simd_f3_and_prefixes : decodesTo .lx86 [
    ([0b01100110, 0b00001111, 0b01011011, 0b11001000], .cvtps2dq .r1 (.reg .r0)),
    ([0x66, 0x0F, 0x5E, 0x9D, 0x34, 0x12], .divpd .r3 (.mem (.disp16 .di 0x1234))),
    ([0x66, 0x0F, 0xC2, 0xF5, 0xF9], .cmppd .r6 (.reg .r5) 0xF9),
    ([0x66, 0x0F, 0xD0, 0x85, 0x34, 0x12], .addsubpd .r0 (.mem (.disp16 .di 0x1234))),
    ([0x66, 0x0F, 0xE6, 0xDA], .cvttpd2dq .r3 (.reg .r2)),
    ([0xF2, 0x0F, 0x2A, 0xAD, 0x34, 0x12], .cvtsi2sd .r5 (.mem (.disp16 .di 0x1234))),
    ([0xF2, 0x0F, 0x2C, 0xC7], .cvttsd2si .r0 (.reg .r7)),
    ([0xF2, 0x0F, 0x2D, 0x95, 0x34, 0x12], .cvtsd2si .r2 (.mem (.disp16 .di 0x1234))),
    ([0xF2, 0x0F, 0x58, 0xEC], .addsd .r5 (.reg .r4)),
    ([0xF2, 0x0F, 0x5A, 0xBD, 0x34, 0x12], .cvtsd2ss .r7 (.mem (.disp16 .di 0x1234))),
    ([0xF2, 0x0F, 0x5E, 0xD1], .divsd .r2 (.reg .r1)),
    ([0xF2, 0x0F, 0xC2, 0xA5, 0x34, 0x12, 0xF9], .cmpsdScalar .r4 (.mem (.disp16 .di 0x1234)) 0xF9),
    ([0xF2, 0x0F, 0xD0, 0xFE], .addsubps .r7 (.reg .r6)),
    ([0xF2, 0x0F, 0xE6, 0x8D, 0x34, 0x12], .cvtpd2dq .r1 (.mem (.disp16 .di 0x1234))),
    ([0xF3, 0x0F, 0x2A, 0xE3], .cvtsi2ss .r4 (.reg .r3)),
    ([0xF3, 0x0F, 0x2C, 0xB5, 0x34, 0x12], .cvttss2si .r6 (.mem (.disp16 .di 0x1234))),
    ([0xF3, 0x0F, 0x2D, 0xC8], .cvtss2si .r1 (.reg .r0)),
    ([0xF3, 0x0F, 0x58, 0x9D, 0x34, 0x12], .addss .r3 (.mem (.disp16 .di 0x1234))),
    ([0xF3, 0x0F, 0x5A, 0xF5], .cvtss2sd .r6 (.reg .r5)),
    ([0xF3, 0x0F, 0x5B, 0x85, 0x34, 0x12], .cvttps2dq .r0 (.mem (.disp16 .di 0x1234))),
    ([0xF3, 0x0F, 0x5E, 0xDA], .divss .r3 (.reg .r2)),
    ([0xF3, 0x0F, 0xC2, 0xAD, 0x34, 0x12, 0xF9], .cmpss .r5 (.mem (.disp16 .di 0x1234)) 0xF9),
    ([0xF3, 0x0F, 0xE6, 0xC7], .cvtdq2pd .r0 (.reg .r7)),
    ([0x64], .overrideFs),
    ([0x65], .overrideGs),
    ([0x66], .operandSize)] = true := by decide

/-! ### One step

Start states and results are those of 95_test_vectors.md sections 3 and 4, but for the few with no vector there, which are
worked by hand from the rule of the instruction. -/

/-- The common start state of 95_test_vectors.md section 1, with what a test changes of it. `fl` is FLAGS as a word. -/
structure Start where
  ax : Word := 0
  cx : Word := 0
  dx : Word := 0
  bx : Word := 0
  sp : Word := 0x100
  bp : Word := 0
  si : Word := 0
  di : Word := 0
  es : Word := 0x200
  cs : Word := 0x100
  ss : Word := 0x300
  ds : Word := 0x200
  ip : Word := 0
  fl : Word := 0
  mem : Memory := []
  answers : List Word := []
  level : Level := .l8086

/-- The state of a start, with code at CS:IP. -/
def Start.state (v : Start) (bs : List Byte) : State :=
  { State.reset with
    regs := { ax := v.ax, cx := v.cx, dx := v.dx, bx := v.bx, sp := v.sp, bp := v.bp, si := v.si, di := v.di }
    segs := { es := v.es, cs := v.cs, ss := v.ss, ds := v.ds }
    ip := v.ip
    flags := Flags.ofWord v.fl
    answers := v.answers
    cfg := Config.ofLevel v.level
    mem := placeCode v.cs v.ip bs v.mem }

/-- Memory holds a byte at a physical address. -/
def holds (t : State) (x : Nat) (v : Byte) : Bool := t.byteAt x == some v

/-- An outcome is a next state with a property. -/
def nextIs (o : Host.Outcome State Fault Refusal) (p : State → Bool) : Bool :=
  match o with
  | .next t => p t
  | _ => false

/-- One step over the code leads to a state with a property. -/
def ends (v : Start) (bs : List Byte) (p : State → Bool) : Bool := nextIs (step (v.state bs)) p

theorem test_add :
    ends ({ ax := 0xFF } : Start) [0x04, 0x01] (fun t =>
      t.regs.ax == 0 && t.ip == 2 && t.flags == Flags.ofWord 0x55) = true := by decide

theorem test_add_again :
    ends ({ ax := 0x1000, si := 0x20, mem := [(0x2020, 0x34), (0x2021, 0x12)] } : Start) [0x03, 0x04] (fun t =>
      t.regs.ax == 0x2234 && t.ip == 2 && t.flags == Flags.ofWord 0x0) = true := by decide

theorem test_or :
    ends ({ ax := 1 } : Start) [0x0C, 0x80] (fun t =>
      t.regs.ax == 0x81 && t.ip == 2 && !t.flags.ofl && t.flags.sf && !t.flags.zf && t.flags.pf && !t.flags.cf) = true := by decide

theorem test_or_again :
    ends ({ bx := 1 } : Start) [0x81, 0xCB, 0x00, 0x80] (fun t =>
      t.regs.bx == 0x8001 && t.ip == 4 && !t.flags.ofl && t.flags.sf && !t.flags.zf && !t.flags.pf && !t.flags.cf) = true := by decide

theorem test_adc :
    ends ({ ax := 0xFF, fl := 0x1 } : Start) [0x14, 0x00] (fun t =>
      t.regs.ax == 0 && t.ip == 2 && t.flags == Flags.ofWord 0x55) = true := by decide

theorem test_adc_again :
    ends ({ ax := 0x7FFF, bx := 0, fl := 0x1 } : Start) [0x11, 0xD8] (fun t =>
      t.regs.ax == 0x8000 && t.ip == 2 && t.flags == Flags.ofWord 0x894) = true := by decide

theorem test_sbb :
    ends ({ ax := 0, fl := 0x1 } : Start) [0x1C, 0xFF] (fun t =>
      t.ip == 2 && t.flags == Flags.ofWord 0x55) = true := by decide

theorem test_sbb_again :
    ends ({ ax := 0, fl := 0x1 } : Start) [0x83, 0xD8, 0x00] (fun t =>
      t.regs.ax == 0xFFFF && t.ip == 3 && t.flags == Flags.ofWord 0x95) = true := by decide

theorem test_and :
    ends ({ ax := 0xF0, fl := 0x801 } : Start) [0x24, 0x3C] (fun t =>
      t.regs.ax == 0x30 && t.ip == 2 && !t.flags.ofl && !t.flags.sf && !t.flags.zf && t.flags.pf && !t.flags.cf) = true := by decide

theorem test_and_again :
    ends ({ bx := 0x12FF } : Start) [0x83, 0xE3, 0xF0] (fun t =>
      t.regs.bx == 0x12F0 && t.ip == 3 && !t.flags.ofl && !t.flags.sf && !t.flags.zf && t.flags.pf && !t.flags.cf) = true := by decide

theorem test_sub :
    ends ({ ax := 0 } : Start) [0x2C, 0x01] (fun t =>
      t.regs.ax == 0xFF && t.ip == 2 && t.flags == Flags.ofWord 0x95) = true := by decide

theorem test_sub_again :
    ends ({ ax := 0x1234 } : Start) [0x29, 0xC0] (fun t =>
      t.regs.ax == 0 && t.ip == 2 && t.flags == Flags.ofWord 0x44) = true := by decide

theorem test_xor :
    ends ({ ax := 0x1234, fl := 0x1 } : Start) [0x31, 0xC0] (fun t =>
      t.regs.ax == 0 && t.ip == 2 && !t.flags.ofl && !t.flags.sf && t.flags.zf && t.flags.pf && !t.flags.cf) = true := by decide

theorem test_xor_again :
    ends ({ ax := 0xF } : Start) [0x34, 0xFF] (fun t =>
      t.regs.ax == 0xF0 && t.ip == 2 && !t.flags.ofl && t.flags.sf && !t.flags.zf && t.flags.pf && !t.flags.cf) = true := by decide

theorem test_cmp :
    ends ({ ax := 3, bx := 0xF8 } : Start) [0x38, 0xD8] (fun t =>
      t.ip == 2 && t.flags == Flags.ofWord 0x11) = true := by decide

theorem test_cmp_again :
    ends ({ ax := 3, bx := 0xF8 } : Start) [0x3A, 0xC3] (fun t =>
      t.ip == 2 && t.flags == Flags.ofWord 0x11) = true := by decide

theorem test_push :
    ends ({ ax := 0x1234 } : Start) [0x50] (fun t =>
      t.regs.sp == 0xFE && t.ip == 1 && holds t 0x30FE 0x34 && holds t 0x30FF 0x12 && t.flags == Flags.ofWord 0x0) = true := by decide

theorem test_push_again :
    ends ({  } : Start) [0x54] (fun t =>
      t.regs.sp == 0xFE && t.ip == 1 && holds t 0x30FE 0xFE && holds t 0x30FF 0 && t.flags == Flags.ofWord 0x0) = true := by decide

theorem test_pop :
    ends ({ sp := 0xFE, mem := [(0x30FE, 0x78), (0x30FF, 0x56)] } : Start) [0x5A] (fun t =>
      t.regs.dx == 0x5678 && t.regs.sp == 0x100 && t.ip == 1 && t.flags == Flags.ofWord 0x0) = true := by decide

theorem test_pop_again :
    ends ({ sp := 0xFE, mem := [(0x30FE, 0), (0x30FF, 0x80)] } : Start) [0x5C] (fun t =>
      t.regs.sp == 0x8000 && t.ip == 1 && t.flags == Flags.ofWord 0x0) = true := by decide

theorem test_daa :
    ends ({ ax := 0x7D } : Start) [0x27] (fun t =>
      t.regs.ax == 0x83 && t.ip == 1 && t.flags.sf && !t.flags.zf && t.flags.af && !t.flags.pf && !t.flags.cf) = true := by decide

theorem test_daa_again :
    ends ({ ax := 0x9A } : Start) [0x27] (fun t =>
      t.regs.ax == 0 && t.ip == 1 && !t.flags.sf && t.flags.zf && t.flags.af && t.flags.pf && t.flags.cf) = true := by decide

theorem test_das :
    ends ({ ax := 0x4B, fl := 0x10 } : Start) [0x2F] (fun t =>
      t.regs.ax == 0x45 && t.ip == 1 && !t.flags.sf && !t.flags.zf && t.flags.af && !t.flags.pf && !t.flags.cf) = true := by decide

theorem test_das_again :
    ends ({ ax := 0xDE, fl := 0x1 } : Start) [0x2F] (fun t =>
      t.regs.ax == 0x78 && t.ip == 1 && !t.flags.sf && !t.flags.zf && t.flags.af && t.flags.pf && t.flags.cf) = true := by decide

theorem test_aaa :
    ends ({ ax := 0x11, fl := 0x10 } : Start) [0x37] (fun t =>
      t.regs.ax == 0x107 && t.ip == 1 && t.flags.af && t.flags.cf) = true := by decide

theorem test_aaa_again :
    ends ({ ax := 0xF } : Start) [0x37] (fun t =>
      t.regs.ax == 0x105 && t.ip == 1 && t.flags.af && t.flags.cf) = true := by decide

theorem test_aas :
    ends ({ ax := 0x2FE, fl := 0x10 } : Start) [0x3F] (fun t =>
      t.regs.ax == 0x108 && t.ip == 1 && t.flags.af && t.flags.cf) = true := by decide

theorem test_inc :
    ends ({ ax := 0xFFFF } : Start) [0x40] (fun t =>
      t.regs.ax == 0 && t.ip == 1 && t.flags == Flags.ofWord 0x54) = true := by decide

theorem test_inc_again :
    ends ({ dx := 0xFF00 } : Start) [0xFE, 0xC6] (fun t =>
      t.regs.dx == 0 && t.ip == 2 && t.flags == Flags.ofWord 0x54) = true := by decide

theorem test_dec :
    ends ({ cx := 0 } : Start) [0x49] (fun t =>
      t.regs.cx == 0xFFFF && t.ip == 1 && t.flags == Flags.ofWord 0x94) = true := by decide

theorem test_dec_again :
    ends ({ bx := 0x10, fl := 0x1, mem := [(0x2010, 0x80)] } : Start) [0xFE, 0x0F] (fun t =>
      t.ip == 2 && holds t 0x2010 0x7F && t.flags == Flags.ofWord 0x811) = true := by decide

theorem test_pusha :
    ends ({ ax := 0x1111, cx := 0x2222, dx := 0x3333, bx := 0x4444, bp := 0x5555, si := 0x6666, di := 0x7777, level := .l186 } : Start) [0x60] (fun t =>
      t.regs.sp == 0xF0 && t.ip == 1 && holds t 0x30F0 0x77 && holds t 0x30F1 0x77 && holds t 0x30F2 0x66 && holds t 0x30F3 0x66 && holds t 0x30F4 0x55 && holds t 0x30F5 0x55 && holds t 0x30F6 0 && holds t 0x30F7 1 && holds t 0x30F8 0x44 && holds t 0x30F9 0x44 && holds t 0x30FA 0x33 && holds t 0x30FB 0x33 && holds t 0x30FC 0x22 && holds t 0x30FD 0x22 && holds t 0x30FE 0x11 && holds t 0x30FF 0x11 && t.flags == Flags.ofWord 0x0) = true := by decide

theorem test_popa :
    ends ({ sp := 0xF0, mem := [(0x30F0, 0x77), (0x30F1, 0x77), (0x30F2, 0x66), (0x30F3, 0x66), (0x30F4, 0x55), (0x30F5, 0x55), (0x30F6, 0xEF), (0x30F7, 0xBE), (0x30F8, 0x44), (0x30F9, 0x44), (0x30FA, 0x33), (0x30FB, 0x33), (0x30FC, 0x22), (0x30FD, 0x22), (0x30FE, 0x11), (0x30FF, 0x11)], level := .l186 } : Start) [0x61] (fun t =>
      t.regs.di == 0x7777 && t.regs.si == 0x6666 && t.regs.bp == 0x5555 && t.regs.bx == 0x4444 && t.regs.dx == 0x3333 && t.regs.cx == 0x2222 && t.regs.ax == 0x1111 && t.regs.sp == 0x100 && t.ip == 1 && t.flags == Flags.ofWord 0x0) = true := by decide

theorem test_bound :
    ends ({ ax := 5, bx := 0x10, mem := [(0x2010, 0), (0x2011, 0), (0x2012, 9), (0x2013, 0)], level := .l186 } : Start) [0x62, 0x07] (fun t =>
      t.ip == 2 && t.flags == Flags.ofWord 0x0) = true := by decide

theorem test_jo :
    ends ({ ip := 0x100 } : Start) [0x70, 0x10] (fun t =>
      t.ip == 0x102 && t.flags == Flags.ofWord 0x0) = true := by decide

theorem test_jz :
    ends ({ ip := 0x100, fl := 0x40 } : Start) [0x74, 0x10] (fun t =>
      t.ip == 0x112 && t.flags == Flags.ofWord 0x40) = true := by decide

theorem test_jz_again :
    ends ({ ip := 0x100 } : Start) [0x74, 0x10] (fun t =>
      t.ip == 0x102 && t.flags == Flags.ofWord 0x0) = true := by decide

theorem test_jbe :
    ends ({ ip := 0x100, fl := 0x1 } : Start) [0x76, 0x10] (fun t =>
      t.ip == 0x112 && t.flags == Flags.ofWord 0x1) = true := by decide

theorem test_jbe_again :
    ends ({ ip := 0x100 } : Start) [0x76, 0x10] (fun t =>
      t.ip == 0x102 && t.flags == Flags.ofWord 0x0) = true := by decide

theorem test_jnbe :
    ends ({ ip := 0x100 } : Start) [0x77, 0x10] (fun t =>
      t.ip == 0x112 && t.flags == Flags.ofWord 0x0) = true := by decide

theorem test_jns :
    ends ({ ip := 0x100 } : Start) [0x79, 0x10] (fun t =>
      t.ip == 0x112 && t.flags == Flags.ofWord 0x0) = true := by decide

theorem test_jp :
    ends ({ ip := 0x100, fl := 0x4 } : Start) [0x7A, 0x10] (fun t =>
      t.ip == 0x112 && t.flags == Flags.ofWord 0x4) = true := by decide

theorem test_jl :
    ends ({ ip := 0x100, fl := 0x80 } : Start) [0x7C, 0xF0] (fun t =>
      t.ip == 0xF2 && t.flags == Flags.ofWord 0x80) = true := by decide

theorem test_jl_again :
    ends ({ ip := 0x100, fl := 0x880 } : Start) [0x7C, 0xF0] (fun t =>
      t.ip == 0x102 && t.flags == Flags.ofWord 0x880) = true := by decide

theorem test_jle :
    ends ({ ip := 0x100, fl := 0x40 } : Start) [0x7E, 0x10] (fun t =>
      t.ip == 0x112 && t.flags == Flags.ofWord 0x40) = true := by decide

theorem test_jnle :
    ends ({ ip := 0x100 } : Start) [0x7F, 0x10] (fun t =>
      t.ip == 0x112 && t.flags == Flags.ofWord 0x0) = true := by decide

theorem test_test :
    ends ({ ax := 0x81 } : Start) [0xA8, 0x80] (fun t =>
      t.ip == 2 && !t.flags.ofl && t.flags.sf && !t.flags.zf && !t.flags.pf && !t.flags.cf) = true := by decide

theorem test_test_again :
    ends ({ ax := 0 } : Start) [0x85, 0xC0] (fun t =>
      t.ip == 2 && !t.flags.ofl && !t.flags.sf && t.flags.zf && t.flags.pf && !t.flags.cf) = true := by decide

theorem test_xchg :
    ends ({ cx := 1, bx := 2 } : Start) [0x87, 0xD9] (fun t =>
      t.regs.cx == 2 && t.regs.bx == 1 && t.ip == 2 && t.flags == Flags.ofWord 0x0) = true := by decide

theorem test_xchg_again :
    ends ({ ax := 0xAAAA, bx := 0x5555 } : Start) [0x93] (fun t =>
      t.regs.ax == 0x5555 && t.regs.bx == 0xAAAA && t.ip == 1 && t.flags == Flags.ofWord 0x0) = true := by decide

theorem test_mov :
    ends ({ bx := 0x1234 } : Start) [0x89, 0xD8] (fun t =>
      t.regs.ax == 0x1234 && t.ip == 2 && t.flags == Flags.ofWord 0x0) = true := by decide

theorem test_mov_again :
    ends ({ bx := 0x1234, cx := 0xFF } : Start) [0x88, 0xDD] (fun t =>
      t.regs.cx == 0x34FF && t.ip == 2 && t.flags == Flags.ofWord 0x0) = true := by decide

theorem test_lea :
    ends ({ bx := 0x1000, si := 0x234 } : Start) [0x8D, 0x40, 0x05] (fun t =>
      t.regs.ax == 0x1239 && t.ip == 3 && t.flags == Flags.ofWord 0x0) = true := by decide

theorem test_lea_again :
    ends ({ bx := 0, si := 0 } : Start) [0x8D, 0x40, 0xFF] (fun t =>
      t.regs.ax == 0xFFFF && t.ip == 3 && t.flags == Flags.ofWord 0x0) = true := by decide

theorem test_nop : ends ({  } : Start) [0x90] (fun t => t.ip == 1 && t.flags == Flags.ofWord 0x0) = true := by decide

theorem test_cbw :
    ends ({ ax := 0x1280 } : Start) [0x98] (fun t =>
      t.regs.ax == 0xFF80 && t.ip == 1 && t.flags == Flags.ofWord 0x0) = true := by decide

theorem test_cbw_again :
    ends ({ ax := 0xFF7F } : Start) [0x98] (fun t =>
      t.regs.ax == 0x7F && t.ip == 1 && t.flags == Flags.ofWord 0x0) = true := by decide

theorem test_cwd :
    ends ({ ax := 0x8000, dx := 0x1234 } : Start) [0x99] (fun t =>
      t.regs.dx == 0xFFFF && t.ip == 1 && t.flags == Flags.ofWord 0x0) = true := by decide

theorem test_cwd_again :
    ends ({ ax := 0x7FFF, dx := 0x1234 } : Start) [0x99] (fun t =>
      t.regs.dx == 0 && t.ip == 1 && t.flags == Flags.ofWord 0x0) = true := by decide

theorem test_pushf :
    ends ({ fl := 0x201 } : Start) [0x9C] (fun t =>
      t.regs.sp == 0xFE && t.ip == 1 && holds t 0x30FE 3 && holds t 0x30FF 0xF2 && t.flags == Flags.ofWord 0x201) = true := by decide

theorem test_popf :
    ends ({ sp := 0xFE, mem := [(0x30FE, 0xFF), (0x30FF, 0xFF)] } : Start) [0x9D] (fun t =>
      t.regs.sp == 0x100 && t.ip == 1 && t.flags == Flags.ofWord 0xFD5) = true := by decide

theorem test_popf_again :
    ends ({ sp := 0xFE, fl := 0xFD5, mem := [(0x30FE, 0), (0x30FF, 0)] } : Start) [0x9D] (fun t =>
      t.regs.sp == 0x100 && t.ip == 1 && t.flags == Flags.ofWord 0x0) = true := by decide

theorem test_sahf :
    ends ({ ax := 0xFF00 } : Start) [0x9E] (fun t =>
      t.ip == 1 && t.flags == Flags.ofWord 0xD5) = true := by decide

theorem test_lahf :
    ends ({ ax := 0, fl := 0x41 } : Start) [0x9F] (fun t =>
      t.regs.ax == 0x4300 && t.ip == 1 && t.flags == Flags.ofWord 0x41) = true := by decide

theorem test_call :
    ends ({ ip := 0x100, sp := 0x200 } : Start) [0xE8, 0x10, 0x00] (fun t =>
      t.regs.sp == 0x1FE && t.ip == 0x113 && holds t 0x31FE 3 && holds t 0x31FF 1 && t.flags == Flags.ofWord 0x0) = true := by decide

theorem test_call_again :
    ends ({ ip := 0x100, bx := 0x400 } : Start) [0xFF, 0xD3] (fun t =>
      t.regs.sp == 0xFE && t.ip == 0x400 && holds t 0x30FE 2 && holds t 0x30FF 1 && t.flags == Flags.ofWord 0x0) = true := by decide

theorem test_movsb :
    ends ({ si := 0x10, di := 0x20, mem := [(0x2010, 0x5A)] } : Start) [0xA4] (fun t =>
      t.regs.si == 0x11 && t.regs.di == 0x21 && t.ip == 1 && holds t 0x2020 0x5A && t.flags == Flags.ofWord 0x0) = true := by decide

theorem test_movsb_again :
    ends ({ si := 0x10, di := 0x20, fl := 0x400, mem := [(0x2010, 0x34), (0x2011, 0x12)] } : Start) [0xA5] (fun t =>
      t.regs.si == 0xE && t.regs.di == 0x1E && t.ip == 1 && holds t 0x2020 0x34 && holds t 0x2021 0x12 && t.flags == Flags.ofWord 0x400) = true := by decide

theorem test_cmpsb :
    ends ({ si := 0x10, di := 0x20, mem := [(0x2010, 0x41), (0x2020, 0x42)] } : Start) [0xA6] (fun t =>
      t.regs.si == 0x11 && t.regs.di == 0x21 && t.ip == 1 && t.flags == Flags.ofWord 0x95) = true := by decide

theorem test_stosb :
    ends ({ ax := 0xEE, di := 0, fl := 0x400 } : Start) [0xAA] (fun t =>
      t.regs.di == 0xFFFF && t.ip == 1 && holds t 0x2000 0xEE && t.flags == Flags.ofWord 0x400) = true := by decide

theorem test_lodsb :
    ends ({ si := 0x10, ax := 0, mem := [(0x2010, 0xCD), (0x2011, 0xAB)] } : Start) [0xAD] (fun t =>
      t.regs.ax == 0xABCD && t.regs.si == 0x12 && t.ip == 1 && t.flags == Flags.ofWord 0x0) = true := by decide

theorem test_lodsb_again :
    ends ({ si := 0x10, ax := 0x9900, mem := [(0x2010, 0x7E)] } : Start) [0xAC] (fun t =>
      t.regs.ax == 0x997E && t.regs.si == 0x11 && t.ip == 1 && t.flags == Flags.ofWord 0x0) = true := by decide

theorem test_scasb :
    ends ({ ax := 0x20, di := 5, mem := [(0x2005, 0x20)] } : Start) [0xAE] (fun t =>
      t.regs.di == 6 && t.ip == 1 && t.flags == Flags.ofWord 0x44) = true := by decide

theorem test_ret :
    ends ({ sp := 0xFE, mem := [(0x30FE, 3), (0x30FF, 1)] } : Start) [0xC3] (fun t =>
      t.regs.sp == 0x100 && t.ip == 0x103 && t.flags == Flags.ofWord 0x0) = true := by decide

theorem test_ret_again :
    ends ({ sp := 0xFE, mem := [(0x30FE, 3), (0x30FF, 1)] } : Start) [0xC2, 0x04, 0x00] (fun t =>
      t.regs.sp == 0x104 && t.ip == 0x103 && t.flags == Flags.ofWord 0x0) = true := by decide

theorem test_les :
    ends ({ mem := [(0x2300, 0x78), (0x2301, 0x56), (0x2302, 0x34), (0x2303, 0x12)] } : Start) [0xC4, 0x3E, 0x00, 0x03] (fun t =>
      t.regs.di == 0x5678 && t.segs.es == 0x1234 && t.ip == 4 && t.flags == Flags.ofWord 0x0) = true := by decide

theorem test_lds :
    ends ({ bx := 0x300, mem := [(0x2300, 0x78), (0x2301, 0x56), (0x2302, 0x34), (0x2303, 0x12)] } : Start) [0xC5, 0x37] (fun t =>
      t.regs.si == 0x5678 && t.segs.ds == 0x1234 && t.ip == 2 && t.flags == Flags.ofWord 0x0) = true := by decide

theorem test_enter :
    ends ({ bp := 0x200, level := .l186 } : Start) [0xC8, 0x08, 0x00, 0x00] (fun t =>
      holds t 0x30FE 0 && holds t 0x30FF 2 && t.regs.bp == 0xFE && t.regs.sp == 0xF6 && t.ip == 4 && t.flags == Flags.ofWord 0x0) = true := by decide

theorem test_enter_again :
    ends ({ bp := 0x200, level := .l186 } : Start) [0xC8, 0x04, 0x00, 0x01] (fun t =>
      holds t 0x30FE 0 && holds t 0x30FF 2 && holds t 0x30FC 0xFE && holds t 0x30FD 0 && t.regs.bp == 0xFE && t.regs.sp == 0xF8 && t.ip == 4 && t.flags == Flags.ofWord 0x0) = true := by decide

theorem test_leave :
    ends ({ bp := 0xFE, sp := 0xF6, mem := [(0x30FE, 0), (0x30FF, 2)], level := .l186 } : Start) [0xC9] (fun t =>
      t.regs.sp == 0x100 && t.regs.bp == 0x200 && t.ip == 1 && t.flags == Flags.ofWord 0x0) = true := by decide

theorem test_retf :
    ends ({ sp := 0xFC, mem := [(0x30FC, 5), (0x30FD, 2), (0x30FE, 0), (0x30FF, 0x10)] } : Start) [0xCB] (fun t =>
      t.regs.sp == 0x100 && t.segs.cs == 0x1000 && t.ip == 0x205 && t.flags == Flags.ofWord 0x0) = true := by decide

theorem test_retf_again :
    ends ({ sp := 0xFC, mem := [(0x30FC, 5), (0x30FD, 2), (0x30FE, 0), (0x30FF, 0x10)] } : Start) [0xCA, 0x04, 0x00] (fun t =>
      t.regs.sp == 0x104 && t.segs.cs == 0x1000 && t.ip == 0x205 && t.flags == Flags.ofWord 0x0) = true := by decide

theorem test_int3 :
    ends ({ ip := 0x100, fl := 0x301, mem := [(0xC, 0), (0xD, 2), (0xE, 0), (0xF, 0xF0)] } : Start) [0xCC] (fun t =>
      t.regs.sp == 0xFA && t.segs.cs == 0xF000 && t.ip == 0x200 && holds t 0x30FA 1 && holds t 0x30FB 1 && holds t 0x30FC 0 && holds t 0x30FD 1 && holds t 0x30FE 3 && holds t 0x30FF 0xF3 && t.flags == Flags.ofWord 0x1) = true := by decide

theorem test_int :
    ends ({ cs := 0x1000, ip := 0x100, ss := 0x2000, sp := 0x100, fl := 0x200, mem := [(0x84, 0x60), (0x85, 0x10), (0x86, 0xA7), (0x87, 0)] } : Start) [0xCD, 0x21] (fun t =>
      t.regs.sp == 0xFA && t.segs.cs == 0xA7 && t.ip == 0x1060 && holds t 0x200FA 2 && holds t 0x200FB 1 && holds t 0x200FC 0 && holds t 0x200FD 0x10 && holds t 0x200FE 2 && holds t 0x200FF 0xF2 && t.flags == Flags.ofWord 0x0) = true := by decide

theorem test_into : ends ({ ip := 0x100 } : Start) [0xCE] (fun t => t.ip == 0x101) = true := by decide

theorem test_into_again :
    ends ({ ip := 0x100, fl := 0xA00, mem := [(0x10, 0), (0x11, 3), (0x12, 0), (0x13, 0xF0)] } : Start) [0xCE] (fun t =>
      t.regs.sp == 0xFA && t.segs.cs == 0xF000 && t.ip == 0x300 && holds t 0x30FA 1 && holds t 0x30FB 1 && holds t 0x30FC 0 && holds t 0x30FD 1 && holds t 0x30FE 2 && holds t 0x30FF 0xFA && t.flags == Flags.ofWord 0x800) = true := by decide

theorem test_iret :
    ends ({ sp := 0xFA, mem := [(0x30FA, 2), (0x30FB, 1), (0x30FC, 0), (0x30FD, 0x10), (0x30FE, 0xD7), (0x30FF, 0xF)] } : Start) [0xCF] (fun t =>
      t.regs.sp == 0x100 && t.segs.cs == 0x1000 && t.ip == 0x102 && t.flags == Flags.ofWord 0xFD5) = true := by decide

theorem test_iret_again :
    ends ({ sp := 0xFA, fl := 0x41, mem := [(0x30FA, 2), (0x30FB, 1), (0x30FC, 0), (0x30FD, 0x10), (0x30FE, 2), (0x30FF, 0xF2)] } : Start) [0xCF] (fun t =>
      t.regs.sp == 0x100 && t.segs.cs == 0x1000 && t.ip == 0x102 && t.flags == Flags.ofWord 0x200) = true := by decide

theorem test_rol :
    ends ({ ax := 0x81 } : Start) [0xD0, 0xC0] (fun t =>
      t.regs.ax == 3 && t.ip == 2 && t.flags == Flags.ofWord 0x801) = true := by decide

theorem test_rol_again :
    ends ({ ax := 0x1234, cx := 4 } : Start) [0xD3, 0xC0] (fun t =>
      t.regs.ax == 0x2341 && t.ip == 2 && t.flags.cf) = true := by decide

theorem test_ror :
    ends ({ ax := 1 } : Start) [0xD0, 0xC8] (fun t =>
      t.regs.ax == 0x80 && t.ip == 2 && t.flags == Flags.ofWord 0x801) = true := by decide

theorem test_rcl :
    ends ({ ax := 0x80 } : Start) [0xD0, 0xD0] (fun t =>
      t.regs.ax == 0 && t.ip == 2 && t.flags == Flags.ofWord 0x801) = true := by decide

theorem test_rcl_again :
    ends ({ ax := 0xA5, cx := 9, fl := 0x1 } : Start) [0xD2, 0xD0] (fun t =>
      t.ip == 2 && t.flags.cf) = true := by decide

theorem test_rcr :
    ends ({ ax := 1 } : Start) [0xD0, 0xD8] (fun t =>
      t.regs.ax == 0 && t.ip == 2 && t.flags == Flags.ofWord 0x1) = true := by decide

theorem test_rcr_again :
    ends ({ ax := 0, fl := 0x1 } : Start) [0xD1, 0xD8] (fun t =>
      t.regs.ax == 0x8000 && t.ip == 2 && t.flags == Flags.ofWord 0x800) = true := by decide

theorem test_shl :
    ends ({ ax := 0xC1 } : Start) [0xD0, 0xE0] (fun t =>
      t.regs.ax == 0x82 && t.ip == 2 && !t.flags.ofl && t.flags.sf && !t.flags.zf && t.flags.pf && t.flags.cf) = true := by decide

theorem test_shl_again :
    ends ({ ax := 0x4000 } : Start) [0xD1, 0xE0] (fun t =>
      t.regs.ax == 0x8000 && t.ip == 2 && t.flags.ofl && t.flags.sf && !t.flags.zf && t.flags.pf && !t.flags.cf) = true := by decide

theorem test_shr :
    ends ({ ax := 0x81 } : Start) [0xD0, 0xE8] (fun t =>
      t.regs.ax == 0x40 && t.ip == 2 && t.flags.ofl && !t.flags.sf && !t.flags.zf && !t.flags.pf && t.flags.cf) = true := by decide

theorem test_shr_again :
    ends ({ ax := 0x1238, cx := 4 } : Start) [0xD3, 0xE8] (fun t =>
      t.regs.ax == 0x123 && t.ip == 2 && !t.flags.sf && !t.flags.zf && !t.flags.pf && t.flags.cf) = true := by decide

theorem test_sar :
    ends ({ ax := 0x81 } : Start) [0xD0, 0xF8] (fun t =>
      t.regs.ax == 0xC0 && t.ip == 2 && !t.flags.ofl && t.flags.sf && !t.flags.zf && t.flags.pf && t.flags.cf) = true := by decide

theorem test_sar_again :
    ends ({ ax := 0x8000, cx := 0xF } : Start) [0xD3, 0xF8] (fun t =>
      t.regs.ax == 0xFFFF && t.ip == 2 && t.flags.sf && !t.flags.zf && t.flags.pf && !t.flags.cf) = true := by decide

theorem test_aam :
    ends ({ ax := 0x3F } : Start) [0xD4, 0x0A] (fun t =>
      t.regs.ax == 0x603 && t.ip == 2 && !t.flags.sf && !t.flags.zf && t.flags.pf) = true := by decide

theorem test_aad :
    ends ({ ax := 0x603 } : Start) [0xD5, 0x0A] (fun t =>
      t.regs.ax == 0x3F && t.ip == 2 && !t.flags.sf && !t.flags.zf && t.flags.pf) = true := by decide

theorem test_aad_again :
    ends ({ ax := 0x1E05 } : Start) [0xD5, 0x0A] (fun t =>
      t.regs.ax == 0x31 && t.ip == 2 && !t.flags.sf && !t.flags.zf && !t.flags.pf) = true := by decide

theorem test_setalc :
    ends ({ ax := 0x1234, fl := 0x1 } : Start) [0xD6] (fun t =>
      t.regs.ax == 0x12FF && t.ip == 1 && t.flags == Flags.ofWord 0x1) = true := by decide

theorem test_xlat :
    ends ({ bx := 0x200, ax := 3, mem := [(0x2203, 0x7C)] } : Start) [0xD7] (fun t =>
      t.regs.ax == 0x7C && t.ip == 1 && t.flags == Flags.ofWord 0x0) = true := by decide

theorem test_xlat_again :
    ends ({ bx := 0xFFFF, ax := 2, mem := [(0x2001, 0x9D)] } : Start) [0xD7] (fun t =>
      t.regs.ax == 0x9D && t.ip == 1 && t.flags == Flags.ofWord 0x0) = true := by decide

theorem test_loopne :
    ends ({ ip := 0x100, cx := 5 } : Start) [0xE0, 0xF0] (fun t =>
      t.regs.cx == 4 && t.ip == 0xF2 && t.flags == Flags.ofWord 0x0) = true := by decide

theorem test_loopne_again :
    ends ({ ip := 0x100, cx := 1 } : Start) [0xE0, 0xF0] (fun t =>
      t.regs.cx == 0 && t.ip == 0x102 && t.flags == Flags.ofWord 0x0) = true := by decide

theorem test_loope :
    ends ({ ip := 0x100, cx := 5 } : Start) [0xE1, 0xF0] (fun t =>
      t.regs.cx == 4 && t.ip == 0x102 && t.flags == Flags.ofWord 0x0) = true := by decide

theorem test_loope_again :
    ends ({ ip := 0x100, cx := 5, fl := 0x40 } : Start) [0xE1, 0xF0] (fun t =>
      t.regs.cx == 4 && t.ip == 0xF2 && t.flags == Flags.ofWord 0x40) = true := by decide

theorem test_loop :
    ends ({ ip := 0x100, cx := 2 } : Start) [0xE2, 0xFE] (fun t =>
      t.regs.cx == 1 && t.ip == 0x100 && t.flags == Flags.ofWord 0x0) = true := by decide

theorem test_loop_again :
    ends ({ ip := 0x100, cx := 1 } : Start) [0xE2, 0xFE] (fun t =>
      t.regs.cx == 0 && t.ip == 0x102 && t.flags == Flags.ofWord 0x0) = true := by decide

theorem test_jcxz :
    ends ({ ip := 0x100, cx := 0 } : Start) [0xE3, 0x10] (fun t =>
      t.ip == 0x112 && t.flags == Flags.ofWord 0x0) = true := by decide

theorem test_jcxz_again :
    ends ({ ip := 0x100, cx := 1 } : Start) [0xE3, 0x10] (fun t =>
      t.ip == 0x102 && t.flags == Flags.ofWord 0x0) = true := by decide

theorem test_jmp :
    ends ({ ip := 0x100 } : Start) [0xEB, 0xFE] (fun t =>
      t.ip == 0x100 && t.flags == Flags.ofWord 0x0) = true := by decide

theorem test_jmp_again :
    ends ({ ip := 5 } : Start) [0xE9, 0xF0, 0xFF] (fun t =>
      t.ip == 0xFFF8 && t.flags == Flags.ofWord 0x0) = true := by decide

theorem test_hlt :
    ends ({  } : Start) [0xF4] (fun t =>
      t.ip == 1 && t.halted && t.flags == Flags.ofWord 0x0) = true := by decide

theorem test_cmc :
    ends ({ fl := 0x1 } : Start) [0xF5] (fun t =>
      t.ip == 1 && t.flags == Flags.ofWord 0x0) = true := by decide

theorem test_not :
    ends ({ ax := 0x55, fl := 0x40 } : Start) [0xF6, 0xD0] (fun t =>
      t.regs.ax == 0xAA && t.ip == 2 && t.flags == Flags.ofWord 0x40) = true := by decide

theorem test_neg :
    ends ({ ax := 0x80 } : Start) [0xF6, 0xD8] (fun t =>
      t.ip == 2 && t.flags == Flags.ofWord 0x881) = true := by decide

theorem test_neg_again :
    ends ({ ax := 1 } : Start) [0xF7, 0xD8] (fun t =>
      t.regs.ax == 0xFFFF && t.ip == 2 && t.flags == Flags.ofWord 0x95) = true := by decide

theorem test_mul :
    ends ({ ax := 0x10, bx := 0x10 } : Start) [0xF6, 0xE3] (fun t =>
      t.regs.ax == 0x100 && t.ip == 2 && t.flags.ofl && t.flags.cf) = true := by decide

theorem test_mul_again :
    ends ({ ax := 0xFFFF, bx := 0xFFFF, dx := 0x1111 } : Start) [0xF7, 0xE3] (fun t =>
      t.regs.ax == 1 && t.regs.dx == 0xFFFE && t.ip == 2 && t.flags.ofl && t.flags.cf) = true := by decide

theorem test_imul :
    ends ({ ax := 0xFE, bx := 3 } : Start) [0xF6, 0xEB] (fun t =>
      t.regs.ax == 0xFFFA && t.ip == 2 && !t.flags.ofl && !t.flags.cf) = true := by decide

theorem test_imul_again :
    ends ({ ax := 0x8000, bx := 0xFFFF, dx := 0 } : Start) [0xF7, 0xEB] (fun t =>
      t.ip == 2 && t.flags.ofl && t.flags.cf) = true := by decide

theorem test_div :
    ends ({ ax := 0x64, bx := 7 } : Start) [0xF6, 0xF3] (fun t =>
      t.regs.ax == 0x20E && t.ip == 2) = true := by decide

theorem test_idiv :
    ends ({ ax := 0xFFF9, bx := 2 } : Start) [0xF6, 0xFB] (fun t =>
      t.regs.ax == 0xFFFD && t.ip == 2) = true := by decide

theorem test_clc :
    ends ({ fl := 0x1 } : Start) [0xF8] (fun t =>
      t.ip == 1 && t.flags == Flags.ofWord 0x0) = true := by decide

theorem test_stc : ends ({  } : Start) [0xF9] (fun t => t.ip == 1 && t.flags == Flags.ofWord 0x1) = true := by decide

theorem test_cli :
    ends ({ fl := 0x200 } : Start) [0xFA] (fun t =>
      t.ip == 1 && t.flags == Flags.ofWord 0x0) = true := by decide

theorem test_sti :
    ends ({  } : Start) [0xFB] (fun t =>
      t.ip == 1 && t.intInhibit && t.flags == Flags.ofWord 0x200) = true := by decide

theorem test_cld :
    ends ({ fl := 0x400 } : Start) [0xFC] (fun t =>
      t.ip == 1 && t.flags == Flags.ofWord 0x0) = true := by decide

theorem test_std : ends ({  } : Start) [0xFD] (fun t => t.ip == 1 && t.flags == Flags.ofWord 0x400) = true := by decide

theorem test_div_error :
    ends ({ ip := 0x100, ax := 0x1234, fl := 0x200, mem := [(0, 0), (1, 4), (2, 0), (3, 0xF0)] } : Start) [0xF6, 0xF3] (fun t =>
      t.ip == 0x400 && t.segs.cs == 0xF000 && t.regs.sp == 0xFA && !t.flags.ifl && t.regs.ax == 0x1234 && holds t 0x30FA 2 && holds t 0x30FB 1) = true := by decide

theorem test_idiv_error :
    ends ({ ip := 0x100, ax := 0xFF80, bx := 1, mem := [(0, 0), (1, 4), (2, 0), (3, 0xF0)], level := .l186 } : Start) [0xF6, 0xFB] (fun t =>
      t.ip == 0x400 && t.regs.ax == 0xFF80 && holds t 0x30FA 0 && holds t 0x30FB 1 && holds t 0x30FC 0 && holds t 0x30FD 1) = true := by decide

theorem test_jno : ends ({ ip := 0x100, fl := 0x800 } : Start) [0x71, 0x10] (fun t => t.ip == 0x102) = true := by decide

theorem test_jno_taken : ends ({ ip := 0x100 } : Start) [0x71, 0x10] (fun t => t.ip == 0x112) = true := by decide

theorem test_jb : ends ({ ip := 0x100, fl := 1 } : Start) [0x72, 0x10] (fun t => t.ip == 0x112) = true := by decide

theorem test_jnb : ends ({ ip := 0x100, fl := 1 } : Start) [0x73, 0x10] (fun t => t.ip == 0x102) = true := by decide

theorem test_jnz : ends ({ ip := 0x100 } : Start) [0x75, 0xFE] (fun t => t.ip == 0x100) = true := by decide

theorem test_js : ends ({ ip := 0x100, fl := 0x80 } : Start) [0x78, 0x10] (fun t => t.ip == 0x112) = true := by decide

theorem test_jnp : ends ({ ip := 0x100 } : Start) [0x7B, 0x10] (fun t => t.ip == 0x112) = true := by decide

theorem test_jnl : ends ({ ip := 0x100, fl := 0x880 } : Start) [0x7D, 0x10] (fun t => t.ip == 0x112) = true := by decide

theorem test_wait :
    ends ({  } : Start) [0x9B] (fun t =>
      t.ip == 1 && !t.waiting && t.boundary == some false) = true := by decide

theorem test_override_ds :
    ends ({  } : Start) [0x3E] (fun t =>
      t.pfx == ⟨true, some .ds, none, false⟩ && t.ip == 1 && t.boundary == none) = true := by decide

theorem test_override_es : ends ({  } : Start) [0x26] (fun t => t.pfx == ⟨true, some .es, none, false⟩) = true := by decide

theorem test_override_cs : ends ({  } : Start) [0x2E] (fun t => t.pfx == ⟨true, some .cs, none, false⟩) = true := by decide

theorem test_override_ss : ends ({  } : Start) [0x36] (fun t => t.pfx == ⟨true, some .ss, none, false⟩) = true := by decide

theorem test_lock : ends ({  } : Start) [0xF0] (fun t => t.pfx == ⟨true, none, none, true⟩) = true := by decide

theorem test_rep : ends ({  } : Start) [0xF3] (fun t => t.pfx == ⟨true, none, some .rep, false⟩) = true := by decide

theorem test_repne : ends ({  } : Start) [0xF2] (fun t => t.pfx == ⟨true, none, some .repne, false⟩) = true := by decide

theorem test_in_imm :
    ends ({ answers := [0x5A] } : Start) [0xE4, 0x60] (fun t =>
      t.regs.ax == 0x5A && t.events == [.ioRead 0x60 .byte 0x5A]) = true := by decide

theorem test_in_dx :
    ends ({ dx := 0x3F8, answers := [0xBEEF] } : Start) [0xED] (fun t =>
      t.regs.ax == 0xBEEF && t.events == [.ioRead 0x3F8 .word 0xBEEF]) = true := by decide

theorem test_out_imm :
    ends ({ ax := 0xA5 } : Start) [0xE6, 0x61] (fun t =>
      t.events == [.ioWrite 0x61 .byte 0xA5]) = true := by decide

theorem test_out_dx :
    ends ({ dx := 0x3F8, ax := 0x1234 } : Start) [0xEF] (fun t =>
      t.events == [.ioWrite 0x3F8 .word 0x1234]) = true := by decide

theorem test_insb :
    ends ({ dx := 0x300, di := 0x20, answers := [0x5A], level := .l186 } : Start) [0x6C] (fun t =>
      holds t 0x2020 0x5A && t.regs.di == 0x21 && t.events == [.ioRead 0x300 .byte 0x5A]) = true := by decide

theorem test_outsb :
    ends ({ dx := 0x300, si := 0x10, mem := [(0x2010, 0xA5)], level := .l186 } : Start) [0x6E] (fun t =>
      t.regs.si == 0x11 && t.events == [.ioWrite 0x300 .byte 0xA5]) = true := by decide

theorem test_esc :
    ends ({ mem := [(0x3234, 0), (0x3235, 0)] } : Start) [0xD8, 0x06, 0x34, 0x12] (fun t =>
      t.ip == 4 && t.events == [] && t.flags == Flags.ofWord 0) = true := by decide

theorem test_bound_above :
    ends ({ ax := 10, bx := 0x10, mem := [(0x14, 0), (0x15, 5), (0x16, 0), (0x17, 0xF0), (0x2010, 0), (0x2011, 0), (0x2012, 9), (0x2013, 0)], level := .l186 } : Start) [0x62, 0x07] (fun t =>
      t.ip == 0x500 && t.segs.cs == 0xF000 && t.regs.sp == 0xFA && holds t 0x30FA 0 && holds t 0x30FB 0 && holds t 0x30FD 1 && holds t 0x30FF 0xF0) = true := by decide

/-- `withFetchWord` makes the next step from reset run a table word: NOP; MOV AX,BX; a PUSHA, with the level raised. -/
theorem test_with_fetch_word : nextIs (step (State.reset.withFetchWord 8 0x90)) (·.ip == 1) = true ∧
    nextIs (step (State.reset.withFetchWord 16 0xD889)) (·.ip == 2) = true ∧
    nextIs (step (State.reset.withFetchWord 8 0x60)) (fun t => t.regs.sp == 0xFFF0 && t.cfg.level == .l186) = true := by decide

theorem test_with_fetch_word_lx86 : step (State.reset.withFetchWord 16 0xA20F) = .refused (.lx86 "CPUID") := rfl

/-- From reset with nothing placed, the fetch at FFFF0h finds no byte (70_reset_and_hazards.md R761). -/
theorem test_reset_fetches_nothing : step State.reset = .fault (.noCode 0xFFFF0) := rfl

/-- 95_test_vectors.md E4: an NMI ends a halt. -/
theorem test_nmi_ends_halt : nextIs (step (((((({ ip := 1, mem := [(8, 0), (9, 6), (10, 0), (11, 0xF0)] } : Start).state []).setHalted
      true).setBoundary (some false)).setInputs [{ Lines.quiet with nmi := true }]))) (fun t =>
      t.ip == 0x600 && t.segs.cs == 0xF000 && !t.halted && !t.nmiLatched && holds t 0x30FA 1 && holds t 0x30FF 0xF0) = true := by decide

/-- 95_test_vectors.md E1: the request is accepted after the instruction that follows STI. -/
theorem test_sti_shadow : nextIs (step (((({ ip := 1, fl := 0x200, mem := [(0x80, 0), (0x81, 5), (0x82, 0), (0x83, 0xF0)] } : Start).state
      [0x90]).setIntInhibit true).setBoundary (some false) |>.setInputs [{ Lines.quiet with intr := true, intrType := 0x20 }])) (fun t =>
      t.ip == 2 && !t.intInhibit && t.boundary == some false) = true := by decide

/-! ### Witnesses: for every statement with hypotheses, a state and operands that meet them together -/

/-- A machine with RAM everywhere: far pointers and words at DS:0010h, 0020h and at the ends of segments, words on the stack
below and above SP, vectors of types 0, 3, 4 and 5. -/
def wit : State :=
  ({ ax := 0x1234, cx := 2, dx := 0x8001, bx := 0x10, sp := 0xFC, bp := 0xFC, si := 0x20, di := 0x20, ip := 0x7F,
     fl := 0x801,
     mem := [(0, 0), (1, 4), (2, 0), (3, 0xF0), (0xC, 0), (0xD, 2), (0xE, 0), (0xF, 0xF0), (0x10, 0), (0x11, 3),
       (0x12, 0), (0x13, 0xF0), (0x14, 0), (0x15, 5), (0x16, 0), (0x17, 0xF0), (0x2000, 0xCD), (0x2010, 0x34),
       (0x2011, 0x12), (0x2012, 0x78), (0x2013, 0x56), (0x2020, 0xFE), (0x2021, 0x7F), (0x30F8, 9), (0x30F9, 8),
       (0x30FA, 7), (0x30FB, 6), (0x30FC, 1), (0x30FD, 2), (0x30FE, 3), (0x30FF, 4), (0x3100, 5), (0x3101, 6),
       (0x3102, 7), (0x3103, 8), (0x3104, 9), (0x3105, 10), (0x3106, 11), (0x3107, 12), (0x3108, 13), (0x3109, 14),
       (0x310A, 15), (0x310B, 16), (0x11FFF, 0xAB)] } : Start).state []

/-- The operand [BX] of `wit`. -/
abbrev opBx : RM := .mem (.base .bx)

/-- The operand at the last offset of a segment, whose second byte is at offset 0. -/
abbrev opEnd : RM := .mem (.direct 0xFFFF)

theorem wit_allRam (xs : List Nat) : wit.AllRam xs := fun _ _ => rfl

theorem witness_DecodeEncodeBelowX86 : (Level.l8086 ≠ .lx86 ∧ (Instr.esc 7 7 opEnd).wf .l8086 = true) ∧
    Level.l186 ≠ .lx86 ∧ (Instr.enter 0xFFFF 0xFF).wf .l186 = true := by decide

theorem witness_DecodeEncodeX86 : (Instr.esc 1 1 opBx).wf .lx86 = true ∧ (Instr.fclex).wf .lx86 = true ∧
    (Instr.aeskeygenassist .r7 opEnd 0xFF).wf .lx86 = true := by decide

theorem witness_DecodedIsTheEncoding : decode .l8086 [0xD4, 0x0A, 0x0F] = .ok (.aam, [0x0F]) ∧
    decode .lx86 [0x9B, 0xDB, 0xE2] = .ok (.fclex, []) := by decide

/-- AAM at the last offset of CS, its second byte at offset 0: without a prefix, and after F3h. -/
def atSegmentEnd (rep : Option RepKind) : State :=
  (({ ip := 0xFFFF } : Start).state [0xD4, 0x0A]).setPfx ⟨rep.isSome, none, rep, false⟩

theorem atSegmentEnd_runs (rep : Option RepKind) :
    (atSegmentEnd rep).cfg.level ≠ .lx86 ∧ Instr.aam.wf (atSegmentEnd rep).cfg.level = true ∧
    (atSegmentEnd rep).GoesOn ∧ (atSegmentEnd rep).halted = false ∧ (atSegmentEnd rep).waiting = false ∧
    (atSegmentEnd rep).repeating = none ∧ (atSegmentEnd rep).stale = [] ∧
    (∀ (k : Nat) (b : Byte), (encode .aam)[k]? = some b →
      (kindAt (atSegmentEnd rep).cfg.memMap (phys (atSegmentEnd rep).segs.cs ((atSegmentEnd rep).ip + BitVec.ofNat 16 k)) = .ram ∨
        kindAt (atSegmentEnd rep).cfg.memMap (phys (atSegmentEnd rep).segs.cs ((atSegmentEnd rep).ip + BitVec.ofNat 16 k)) = .rom) ∧
      (atSegmentEnd rep).byteAt (phys (atSegmentEnd rep).segs.cs ((atSegmentEnd rep).ip + BitVec.ofNat 16 k)) = some b) ∧
    (atSegmentEnd rep).pfx.rep = rep := by
  have placed (off : Word) (b : Byte) (h : Memory.lookup (placeCode 0x100 0xFFFF [0xD4, 0x0A] []) (phys 0x100 off) = some b) :
      (atSegmentEnd rep).byteAt (phys 0x100 off) = some b := h
  refine ⟨nofun, rfl, ⟨rfl, Or.inl rfl⟩, rfl, rfl, rfl, rfl, fun k b h => ?_, rfl⟩
  match k with
  | 0 => cases h; exact ⟨Or.inl rfl, placed (0xFFFF + 0#16) 0xD4 (by decide)⟩
  | 1 => cases h; exact ⟨Or.inl rfl, placed (0xFFFF + 1#16) 0x0A (by decide)⟩
  | k + 2 => simp [encode] at h

theorem witness_StepRunsInstruction : (atSegmentEnd none).pfx.rep = none ∧ (atSegmentEnd (some .rep)).pfx.rep ≠ none ∧
    isPrefix .aam = false ∧ isString .aam = false ∧ Instr.aam.wf (atSegmentEnd none).cfg.level = true ∧
    nextIs (step (atSegmentEnd none)) (·.ip == 1) = true ∧ step (atSegmentEnd (some .rep)) = .refused .repeatOnNonString :=
  ⟨rfl, nofun, rfl, rfl, rfl, by decide, rfl⟩

/-- AAM runs at a boundary with no trap due, and at one with a trap and a latched NMI under the shadow, which it ends. -/
theorem witness_StepRunsInstruction_boundary :
    ((atSegmentEnd none).setBoundary (some false)).GoesOn ∧
    ((((atSegmentEnd none).setBoundary (some true)).setNmiLatched true).setIntInhibit true).GoesOn ∧
    nextIs (step ((atSegmentEnd none).setBoundary (some false))) (·.ip == 1) = true ∧
    nextIs (step ((((atSegmentEnd none).setBoundary (some true)).setNmiLatched true).setIntInhibit true))
      (fun t => t.ip == 1 && t.intInhibit == false && t.nmiLatched) = true :=
  ⟨⟨rfl, Or.inr (Or.inr ⟨rfl, rfl, Or.inl rfl⟩)⟩, ⟨rfl, Or.inr (Or.inl rfl)⟩, by decide, by decide⟩

/-- A repetition of STOSB in progress, with both elements left. -/
def inStosb : State :=
  (wit.setRepeating (some (.stos .byte))).setPfx ⟨true, none, some .rep, false⟩

theorem witness_StepRunsInstruction_repeating : inStosb.GoesOn ∧ inStosb.halted = false ∧ inStosb.waiting = false ∧
    inStosb.repeating = some (.stos .byte) := ⟨⟨rfl, Or.inl rfl⟩, rfl, rfl, rfl⟩

theorem witness_ByteRegisterHalves : RegNum.r0 ≠ .r4 ∧ RegNum.r1 ≠ .r0 ∧
    RegNum.r0 ≠ (byteHome .r7).1 ∧ byteHome .r0 = (.r0, false) ∧ byteHome .r7 = (.r3, true) := by decide

theorem witness_WordByteOrder : wit.AllRam (wit.accessBytes .word 0x200 0xFFFF) := wit_allRam _

theorem witness_PlaceReadsBack : wit.AllRam (wit.locBytes .word (wit.locate opEnd)) ∧
    0x12000 ∉ wit.locBytes .word (wit.locate opEnd) ∧ (∀ n, Loc.reg .r4 = .reg n → RegNum.r4 ≠ homeReg .byte n) :=
  ⟨wit_allRam _, by decide, fun n h => by cases h; decide⟩

theorem witness_RamReadsAreQuiet : wit.AllHold (wit.accessBytes .byte 0x200 0xFFFF) ∧
    wit.AllHold (wit.accessBytes .word 0x200 0xFFFF) ∧ wit.byteAt (byteAddr wit.cfg.segWrap 0x200 0xFFFF 0) = some 0xAB ∧
    wit.byteAt (byteAddr wit.cfg.segWrap 0x200 0xFFFF 1) = some 0xCD := by
  unfold State.AllHold
  decide

/-- A memory map with one range of each kind. -/
def mapped : State :=
  (wit.setCfg { wit.cfg with memMap :=
    [⟨0x8000, 0x10, .rom⟩, ⟨0x8010, 0x10, .absent⟩, ⟨0x8020, 0x10, .device⟩] }).setAnswers [0x1234]

theorem witness_MemoryKinds :
    kindAt mapped.cfg.memMap 0x8000 = .rom ∧ kindAt mapped.cfg.memMap 0x800F = .rom ∧
    kindAt mapped.cfg.memMap 0x8010 = .absent ∧ kindAt mapped.cfg.memMap 0x801F = .absent ∧
    (kindAt mapped.cfg.memMap 0x8020 = .device ∧ kindAt mapped.cfg.memMap 0x802F = .device ∧ mapped.answers = [0x1234]) ∧
    kindAt mapped.cfg.memMap 0x8030 = .ram ∧ mapped.byteAt 0x8030 = none ∧ kindAt mapped.cfg.memMap 0x7FFF = .ram := by
  decide

theorem witness_MemoryKinds_device :
    (∀ y ∈ mapped.accessBytes .word 0x802 0, kindAt mapped.cfg.memMap y = .device) ∧
    (∀ y ∈ mapped.accessBytes .word 0x802 0xE, kindAt mapped.cfg.memMap y = .device) ∧
    (mapped.setAnswers [0x1234, 0x5678]).answers = 0x1234 :: 0x5678 :: [] := by decide

/-- `wit` with two bytes fetched ahead of IP = 7Fh. -/
def ahead : State := wit.setCfg { wit.cfg with prefetchDepth := 2 }

/-- The first and the last byte that may have been fetched ahead, the next one, and the one at IP with no value, kept. -/
theorem witness_MemoryKinds_fetch :
    (∃ j, j < ahead.cfg.prefetchDepth.val ∧ 0x107F = phys ahead.segs.cs (ahead.ip + BitVec.ofNat 16 j)) ∧
    (∃ j, j < ahead.cfg.prefetchDepth.val ∧ 0x1080 = phys ahead.segs.cs (ahead.ip + BitVec.ofNat 16 j)) ∧
    (¬ ∃ j, j < ahead.cfg.prefetchDepth.val ∧ 0x1081 = phys ahead.segs.cs (ahead.ip + BitVec.ofNat 16 j)) ∧
    kindAt ahead.cfg.memMap ahead.codeAddr = .ram ∧ kindAt ahead.cfg.memMap 0x1081 = .ram ∧
    (∀ p ∈ ahead.stale, p.1 ≠ ahead.codeAddr) ∧ (ahead.storeByte 0x107F 0x90).stale = [(ahead.codeAddr, none)] ∧
    (match fetchByte (ahead.setMem [(0x107F, 0x90)]) with | .ok (b, _) => b == 0x90 | .error _ => false) = true := by
  refine ⟨⟨0, by decide, by decide⟩, ⟨1, by decide, by decide⟩, fun ⟨j, h, e⟩ => ?_, rfl, rfl, nofun, rfl, by decide⟩
  have h : j < 2 := h
  match j with
  | 0 => exact absurd e (by decide)
  | 1 => exact absurd e (by decide)
  | j + 2 => omega

theorem wit_readRM : readRM .word opBx wit = .ok (0x1234, wit) ∧ readRM .word opEnd wit = .ok (0xCDAB, wit) ∧
    readRM .byte opEnd wit = .ok (0xAB, wit) ∧ readRM .word (.reg .r7) wit = .ok (0x20, wit) ∧
    readRM .byte (.reg .r4) wit = .ok (0x12, wit) := ⟨rfl, rfl, rfl, rfl, rfl⟩

theorem wit_readPair : readPair (.base .bx) wit = .ok ((0x1234, 0x5678), wit) := rfl

theorem witness_MovReads : readRM .word opEnd wit = .ok (0xCDAB, wit) ∧
    load .word (wit.sreg (wit.pfx.seg.getD .ds)) 0xFFFF wit = .ok (0xCDAB, wit) ∧
    load .byte (wit.sreg (wit.pfx.seg.getD .ds))
      ((wit.setReg16 .r3 0xFFDC).regs.bx + ((wit.setReg16 .r3 0xFFDC).regs.ax.extractLsb' 0 8).setWidth 16) wit =
      .ok (0x34, wit) ∧
    readPair (.base .bx) wit = .ok ((0x1234, 0x5678), wit) := ⟨rfl, rfl, rfl, rfl⟩

theorem witness_EffectiveAddresses : Base.bx ≠ .bp ∧ wit.pfx.seg = none ∧ (wit.overrideSeg .es).pfx.seg = some .es ∧
    (Base.di ≠ .bpsi ∧ Base.di ≠ .bpdi ∧ Base.di ≠ .bp) := by decide

theorem witness_ExchangesAndConversions : readRM .word opEnd wit = .ok (0xCDAB, wit) ∧
    readRM .byte (.reg .r4) wit = .ok (0x12, wit) := ⟨rfl, rfl⟩

theorem witness_PushResults : ¬ (RegNum.r5 = .r4 ∧ wit.cfg.pushSp = .new) ∧
    ¬ (RegNum.r4 = .r4 ∧ (wit.setCfg { wit.cfg with pushSp := .old }).cfg.pushSp = .new) ∧ wit.cfg.pushSp = .new ∧
    readRM .word (.mem (.direct 0xFFFF)) wit = .ok (0xCDAB, wit) := ⟨by decide, by decide, rfl, rfl⟩

theorem witness_PopResults : load .word wit.segs.ss wit.regs.sp wit = .ok (0x0201, wit) := rfl

theorem witness_PushAndPop : load .word wit.segs.ss wit.regs.sp wit = .ok (0x0201, wit) ∧ wit.AllRam (wit.pushBytes 1) :=
  ⟨rfl, wit_allRam _⟩

theorem wit_holds (off v : Word) (h : ((wit.accessBytes .word wit.segs.ss off).all fun x => (wit.byteAt x).isSome) = true)
    (h₀ : wit.byteAt (byteAddr wit.cfg.segWrap wit.segs.ss off 0) = some (v.extractLsb' 0 8))
    (h₁ : wit.byteAt (byteAddr wit.cfg.segWrap wit.segs.ss off 1) = some (v.extractLsb' 8 8)) :
    wit.HoldsWord wit.segs.ss off v :=
  ⟨fun x hx => ⟨Or.inl rfl, List.all_eq_true.1 h x hx⟩, h₀, h₁⟩

theorem witness_PushaPopa : wit.AllRam (wit.pushBytes 8) ∧
    (∀ p ∈ [((0 : Nat), (0x0201 : Word)), (2, 0x0403), (4, 0x0605), (6, 0x0807), (8, 0x0A09), (10, 0x0C0B), (12, 0x0E0D),
        (14, 0x100F)], wit.HoldsWord wit.segs.ss (wit.regs.sp + BitVec.ofNat 16 p.1) p.2) := by
  refine ⟨wit_allRam _, fun p hp => wit_holds _ _ ?_ ?_ ?_⟩ <;> revert p <;> decide

theorem witness_PortAccesses : mapped.answers = 0x1234 :: [] ∧ wit.answers = [] ∧
    (Instr.inImm .word 0xFF, (0xFF : Byte).setWidth 16) ∈ [(Instr.inImm .word 0xFF, (0xFF : Byte).setWidth 16), (.inDx .word, wit.regs.dx)] ∧
    (Instr.inDx .byte, wit.regs.dx) ∈ [(Instr.inImm .byte 0, (0 : Byte).setWidth 16), (.inDx .byte, wit.regs.dx)] := by decide

theorem witness_AddSubWithRegister : readRM .word opEnd wit = .ok (0xCDAB, wit) ∧
    readRM .byte (.reg .r4) wit = .ok (0x12, wit) := ⟨rfl, rfl⟩

theorem witness_AddSubWithImmediate : readRM .byte opEnd wit = .ok (0xAB, wit) ∧ readRM .word opBx wit = .ok (0x1234, wit) :=
  ⟨rfl, rfl⟩

theorem witness_StatusFlagsMean : 4 ≤ 4 ∧ 4 ≤ Width.byte.bits ∧ 4 ≤ Width.word.bits := by decide

theorem witness_CompareOrdersOperands : readRM .word (.reg .r7) wit = .ok (0x20, wit) := rfl

theorem witness_IncDecNegNot : readRM .word opEnd wit = .ok (0xCDAB, wit) := rfl

theorem witness_LogicWithRegister : readRM .byte opEnd wit = .ok (0xAB, wit) := rfl

theorem witness_LogicWithImmediate : readRM .byte (.reg .r4) wit = .ok (0x12, wit) ∧ readRM .word opEnd wit = .ok (0xCDAB, wit) :=
  ⟨rfl, rfl⟩

theorem witness_AsciiAndBaseAdjust : (0x34 : Byte) = wit.reg8 .r0 ∧ (0x12 : Byte) = wit.reg8 .r4 ∧
    (false = true ↔ 9 < (0x34 : Byte).toNat % 16 ∨ wit.flags.af = true) ∧
    (true = true ↔ 9 < (0x0A : Byte).toNat % 16 ∨ wit.flags.af = true) := by decide

/-- AL as given, AF set, CF clear. -/
def adjusting (al : Word) : State := ({ ax := al, fl := 0x10 } : Start).state []

theorem witness_DecimalAdjustSteps :
    (0xF9 : Byte) = (adjusting 0xF9).reg8 .r0 ∧
    (0xFF : Byte) = (if 9 < (0xF9 : Byte).toNat % 16 ∨ (adjusting 0xF9).flags.af = true then 0xF9 + 6 else 0xF9) ∧
    (0xF3 : Byte) = (if 9 < (0xF9 : Byte).toNat % 16 ∨ (adjusting 0xF9).flags.af = true then 0xF9 - 6 else 0xF9) ∧
    ¬ ((9 < (0xF9 : Byte).toNat % 16 ∨ (adjusting 0xF9).flags.af = true) ∧ 0xF9 < (0xF9 : Byte).toNat) ∧
    ¬ ((9 < (6 : Byte).toNat % 16 ∨ (adjusting 6).flags.af = true) ∧ (6 : Byte).toNat < 6) ∧
    ¬ (0x9A ≤ (6 : Byte).toNat ∧ (6 : Byte).toNat ≤ 0x9F ∧ (adjusting 6).flags.cf = false) := by decide

/-- After ADD AL,60h from 99h: AL is F9h, the highest that the rule of DAA does not leave open. -/
theorem witness_DaaGivesDecimalSum : (({ ax := 0x99 } : Start).state []).reg8 .r0 = BitVec.ofNat 8 (99 / 10 * 16 + 99 % 10) ∧
    nextIs (exec (.addAcc (.ib (BitVec.ofNat 8 (60 / 10 * 16 + 60 % 10)))) (({ ax := 0x99 } : Start).state [])) (fun t =>
      !((decide (9 < (t.reg8 .r0).toNat % 16) || t.flags.af) && decide (0xF9 < (t.reg8 .r0).toNat)) &&
        t.reg8 .r0 == 0xF9) = true := by decide

theorem witness_ProductResults : readRM .byte (.reg .r4) wit = .ok (0x12, wit) ∧ readRM .word opEnd wit = .ok (0xCDAB, wit) :=
  ⟨rfl, rfl⟩

/-- AX, DX and BX as given. -/
def dividing (ax dx bx : Word) : State :=
  ({ ax := ax, dx := dx, bx := bx, mem := [(0, 0), (1, 4), (2, 0), (3, 0xF0)] } : Start).state []

theorem dividing_readRM (ax dx bx : Word) : readRM .word (.reg .r3) (dividing ax dx bx) = .ok (bx, dividing ax dx bx) ∧
    readRM .byte (.reg .r3) (dividing ax dx bx) = .ok (bx.extractLsb' 0 8, dividing ax dx bx) := ⟨rfl, rfl⟩

/-- The greatest and the least quotients that fit. -/
theorem witness_QuotientResults :
    ((1 : Byte) ≠ 0 ∧ (dividing 0xFF 0 1).regs.ax.toNat / (1 : Byte).toNat < 256) ∧
    (-127 ≤ (dividing 0xFF81 0 1).regs.ax.toInt.tdiv (1 : Byte).toInt ∧ (dividing 0xFF81 0 1).regs.ax.toInt.tdiv (1 : Byte).toInt ≤ 127) ∧
    (-127 ≤ (dividing 0x7F 0 1).regs.ax.toInt.tdiv (1 : Byte).toInt ∧ (dividing 0x7F 0 1).regs.ax.toInt.tdiv (1 : Byte).toInt ≤ 127) ∧
    ((dividing 0xFFFF 0 1).regs.dx ++ (dividing 0xFFFF 0 1).regs.ax).toNat / (1 : Word).toNat < 65536 ∧
    (-32767 ≤ ((dividing 0x8001 0xFFFF 1).regs.dx ++ (dividing 0x8001 0xFFFF 1).regs.ax).toInt.tdiv (1 : Word).toInt ∧
      ((dividing 0x8001 0xFFFF 1).regs.dx ++ (dividing 0x8001 0xFFFF 1).regs.ax).toInt.tdiv (1 : Word).toInt ≤ 32767) ∧
    ((dividing 0x7FFF 0 1).regs.dx ++ (dividing 0x7FFF 0 1).regs.ax).toInt.tdiv (1 : Word).toInt ≤ 32767 := by decide

/-- The nearest quotients that do not fit, and the divisor 0. -/
theorem witness_DivideErrorTakesTypeZero :
    (256 ≤ (dividing 0x100 0 1).regs.ax.toNat / (1 : Byte).toNat) ∧
    ((dividing 0xFF80 0 1).regs.ax.toInt.tdiv (1 : Byte).toInt < -127) ∧ (127 < (dividing 0x80 0 1).regs.ax.toInt.tdiv (1 : Byte).toInt) ∧
    (65536 ≤ ((dividing 0 1 1).regs.dx ++ (dividing 0 1 1).regs.ax).toNat / (1 : Word).toNat) ∧
    (((dividing 0x8000 0xFFFF 1).regs.dx ++ (dividing 0x8000 0xFFFF 1).regs.ax).toInt.tdiv (1 : Word).toInt < -32767) ∧
    (32767 < ((dividing 0x8000 0 1).regs.dx ++ (dividing 0x8000 0 1).regs.ax).toInt.tdiv (1 : Word).toInt) ∧
    (dividing 5 0 0).regs.bx = 0 := by decide

theorem witness_ShiftResults : readRM .word opEnd wit = .ok (0xCDAB, wit) ∧
    (2 = if wit.cfg.countMask = .none then (wit.reg8 .r1).toNat else (wit.reg8 .r1).toNat % 32) ∧
    (1 < 2 ∨ (2 = 1 ∧ ShiftKind.rol.isShift = true)) ∧ (1 < 1 ∨ (1 = 1 ∧ ShiftKind.shl.isShift = true)) ∧
    ¬ (1 < 1 ∨ (1 = 1 ∧ ShiftKind.rol.isShift = true)) ∧ ¬ (1 < 0 ∨ (0 = 1 ∧ ShiftKind.shl.isShift = true)) ∧
    (ShiftKind.rol, Instr.rol .word .cl opEnd) ∈ [(ShiftKind.rol, Instr.rol .word .cl opEnd)] := ⟨rfl, by decide⟩

theorem witness_ShiftClosedForms : 2 ≤ 2 ∧ (1 ≤ 1 ∧ 1 ≤ 2) ∧ 1 ≤ 16 ∧ 16 ≤ 16 := by decide

theorem witness_ShiftFlagsMean : ShiftKind.sar.isShift = true ∧ ShiftKind.ror.isShift = false ∧ 0 < 1 ∧ 1 < 2 := by decide

theorem witness_StringElements : wit.pfx.rep = none ∧
    (2 : Word) = (if wit.flags.df then -(BitVec.ofNat 16 Width.word.bytes) else BitVec.ofNat 16 Width.word.bytes) ∧
    load .word (wit.sreg (wit.pfx.seg.getD .ds)) wit.regs.si wit = .ok (0x7FFE, wit) ∧
    load .word wit.segs.es wit.regs.di wit = .ok (0x7FFE, wit) ∧
    ioRead .word wit.regs.dx (wit.setAnswers [0xBEEF]) =
      .ok (0xBEEF, (wit.setAnswers []).setEvents [.ioRead 0x8001 .word 0xBEEF]) := ⟨rfl, by decide, rfl, rfl, rfl⟩

/-- `wit` under a repeat prefix with a count. -/
def repeatedly (k : RepKind) (n : Word) : State := (wit.setPfx ⟨true, none, some k, false⟩).setReg16 .r1 n

theorem witness_RepeatedStrings : (repeatedly .rep 0).pfx.rep = some .rep ∧ (repeatedly .rep 0).regs.cx = 0 ∧
    (RepKind.rep = .repne → Instr.stos .byte = .cmps .byte ∨ Instr.stos .byte = .scas .byte) ∧
    (RepKind.repne = .repne → Instr.scas .byte = .cmps .byte ∨ Instr.scas .byte = .scas .byte) ∧
    (repeatedly .repne 1).regs.cx ≠ 0 ∧
    nextIs (exec (.scas .byte) ((repeatedly .repne 1).setPfx { (repeatedly .repne 1).pfx with rep := none })) (fun _ => true) = true ∧
    (repeatedly .repne 1).pfx.rep = some .repne ∧ isString .nop = false ∧ isPrefix .nop = false ∧ wit.pfx.rep = none := by
  decide

theorem witness_RepStosbFillsMemory : inStosb.repeating = some (.stos .byte) ∧ inStosb.pfx.rep = some .rep ∧
    inStosb.regs.cx.toNat = 2 ∧ inStosb.flags.df = false ∧ inStosb.flags.tf = false ∧ inStosb.halted = false ∧
    inStosb.waiting = false ∧ inStosb.intInhibit = false ∧ inStosb.nmiLatched = false ∧ inStosb.inputs = [] ∧
    (inStosb.boundary = none ∨ inStosb.boundary = some false) ∧
    kindAt inStosb.cfg.memMap (phys inStosb.segs.es (inStosb.regs.di + BitVec.ofNat 16 1)) = .ram := by decide

theorem witness_JumpsCallsReturns : readRM .word opEnd wit = .ok (0xCDAB, wit) ∧
    readPair (.base .bx) wit = .ok ((0x1234, 0x5678), wit) ∧ load .word wit.segs.ss wit.regs.sp wit = .ok (0x0201, wit) ∧
    load .word wit.segs.ss (wit.regs.sp + 2) (wit.setReg16 .r4 (wit.regs.sp + 2)) =
      .ok (0x0403, wit.setReg16 .r4 (wit.regs.sp + 2)) := ⟨rfl, rfl, rfl, rfl⟩

theorem witness_CallThenReturn : wit.AllRam (wit.pushBytes 2) ∧ nextIs (exec (.callNear 0xFFFF) wit) (·.ip == 0x7E) = true ∧
    nextIs (exec (.callFar 0 0xFFFF) wit) (·.segs.cs == 0xFFFF) = true := ⟨wit_allRam _, by decide, by decide⟩

theorem witness_EnterLeave : (0x20 : Byte).toNat % 32 = 0 ∧ (0xE1 : Byte).toNat % 32 = 1 ∧
    (2 ≤ (2 : Byte).toNat % 32 ∧ (match enterCopies 1 (wit.push16 wit.regs.bp) with | .ok _ => true | .error _ => false) = true) ∧
    load .word wit.segs.ss wit.regs.bp (wit.setReg16 .r4 wit.regs.bp) = .ok (0x0201, wit.setReg16 .r4 wit.regs.bp) ∧
    wit.AllRam (wit.pushBytes 1) ∧ nextIs (exec (.enter 0xFFFF 2) wit) (fun _ => true) = true :=
  ⟨by decide, by decide, by decide, rfl, wit_allRam _, by decide⟩

/-- ENTER with level 2 from the frame at SS:0108h: the word 0C0Bh below it is copied to SS:00F8h. -/
theorem witness_EnterLeave_frame : 2 ≤ (2 : Byte).toNat % 32 ∧ (wit.setReg16 .r5 0x108).AllRam ((wit.setReg16 .r5 0x108).pushBytes 3) ∧
    (∀ j, 1 ≤ j → j < (2 : Byte).toNat % 32 →
      (wit.setReg16 .r5 0x108).HoldsWord 0x300 ((wit.setReg16 .r5 0x108).regs.bp - BitVec.ofNat 16 (2 * j)) 0x0C0B ∧
      ∀ x ∈ (wit.setReg16 .r5 0x108).accessBytes .word 0x300 ((wit.setReg16 .r5 0x108).regs.bp - BitVec.ofNat 16 (2 * j)),
        x ∉ (wit.setReg16 .r5 0x108).pushBytes 3) ∧
    (wit.setReg16 .r5 0x108).segs.ss = 0x300 ∧
    nextIs (exec (.enter 0xFFFF 2) (wit.setReg16 .r5 0x108)) (fun t => t.byteAt 0x30F8 == some 0x0B && t.byteAt 0x30F9 == some 0x0C) =
      true := by
  refine ⟨by decide, fun _ _ => rfl, fun j h₁ h₂ => ?_, rfl, by decide⟩
  have h₂ : j < 2 := h₂
  obtain rfl : j = 1 := by omega
  exact ⟨wit_holds _ _ (by decide) (by decide) (by decide), by decide⟩

/-- BOUND's index in AX at the bounds 1234h and 5678h, and next to them. -/
theorem witness_SoftwareInterrupts : wit.flags.ofl = true ∧ (({} : Start).state []).flags.ofl = false ∧
    readPair (.base .bx) wit = .ok ((0x1234, 0x5678), wit) ∧
    ((0x1234 : Word).toInt ≤ (wit.reg16 .r0).toInt ∧ (wit.reg16 .r0).toInt ≤ (0x5678 : Word).toInt) ∧
    ((0x5678 : Word).toInt ≤ ((wit.setReg16 .r0 0x5678).reg16 .r0).toInt ∧ ((wit.setReg16 .r0 0x5678).reg16 .r0).toInt ≤ (0x5678 : Word).toInt) ∧
    ((wit.setReg16 .r0 0x1233).reg16 .r0).toInt < (0x1234 : Word).toInt ∧
    (0x5678 : Word).toInt < ((wit.setReg16 .r0 0x5679).reg16 .r0).toInt := ⟨by decide, by decide, rfl, by decide⟩

theorem wit_holdsVector (off v : Word) (h : ((wit.accessBytes .word 0 off).all fun x => (wit.byteAt x).isSome) = true)
    (h₀ : wit.byteAt (byteAddr wit.cfg.segWrap 0 off 0) = some (v.extractLsb' 0 8))
    (h₁ : wit.byteAt (byteAddr wit.cfg.segWrap 0 off 1) = some (v.extractLsb' 8 8)) : wit.HoldsWord 0 off v :=
  ⟨fun x hx => ⟨Or.inl rfl, List.all_eq_true.1 h x hx⟩, h₀, h₁⟩

theorem witness_InterruptSequence :
    (wit.HoldsWord 0 ((0 : Byte).setWidth 16 * 4) 0x0400 ∧ wit.HoldsWord 0 ((0 : Byte).setWidth 16 * 4 + 2) 0xF000) ∧
    (wit.HoldsWord 0 ((3 : Byte).setWidth 16 * 4) 0x0200 ∧ wit.HoldsWord 0 ((3 : Byte).setWidth 16 * 4 + 2) 0xF000) ∧
    (wit.HoldsWord 0 ((4 : Byte).setWidth 16 * 4) 0x0300 ∧ wit.HoldsWord 0 ((4 : Byte).setWidth 16 * 4 + 2) 0xF000) ∧
    wit.flags.ofl = true ∧ wit.AllRam (wit.pushBytes 3) := by
  refine ⟨⟨wit_holdsVector _ _ ?_ ?_ ?_, wit_holdsVector _ _ ?_ ?_ ?_⟩, ⟨wit_holdsVector _ _ ?_ ?_ ?_, wit_holdsVector _ _ ?_ ?_ ?_⟩,
    ⟨wit_holdsVector _ _ ?_ ?_ ?_, wit_holdsVector _ _ ?_ ?_ ?_⟩, rfl, wit_allRam _⟩ <;> decide

theorem witness_InterruptReturn : wit.HoldsWord wit.segs.ss wit.regs.sp 0x0201 ∧
    wit.HoldsWord wit.segs.ss (wit.regs.sp + 2) 0x0403 ∧ wit.HoldsWord wit.segs.ss (wit.regs.sp + 4) 0x0605 ∧
    wit.AllRam (wit.pushBytes 3) ∧ nextIs (runOp (interrupt 3 0xFFFF) wit) (·.regs.sp == 0xF6) = true := by
  refine ⟨wit_holds _ _ ?_ ?_ ?_, wit_holds _ _ ?_ ?_ ?_, wit_holds _ _ ?_ ?_ ?_, wit_allRam _, ?_⟩ <;> decide

theorem witness_ProcessorControl : wit.lines.test = true ∧
    (wit.setLines { wit.lines with test := false }).lines.test = false ∧ wit.cfg.coprocessor = false ∧
    (wit.setCfg { wit.cfg with coprocessor := true }).cfg.coprocessor = true ∧
    readRM .word (.mem (.direct 0xFFFF)) wit = .ok (0xCDAB, wit) := ⟨rfl, rfl, rfl, rfl, rfl⟩

theorem witness_LaterLevelsRefused : Instr.fchs.level = .lx86 ∧ Instr.nop.level ≠ .lx86 ∧ Instr.pusha.level ≠ .lx86 ∧
    refusalName .loadallSysret = some "LOADALL___SYSRET" ∧ refusalName .smiIcebp = some "SMI___ICEBP" ∧
    refusalName .overrideFs = some "FS:/GS: prefix" := by decide

/-- One instruction of each shape goes on: a register, a store, a push, a string, an interrupt. -/
theorem witness_Frames : ([Instr.addRmReg .byte (.reg .r4) .r0, .movRmReg .word opEnd .r0, .pushReg .r0, .movs .word, .intN 3,
      .sti, .nop].all fun i => nextIs (exec i wit) fun _ => true) = true ∧ touchesHidden .nop = false ∧
    transfers (.movs .word) = false ∧ transfers (.intN 3) = true ∧ usesPort (.movs .word) = false ∧ mayDraw (.movs .word) = false ∧
    (∀ x ∈ loadedBytes wit (.movs .word) ++ storedBytes wit (.movs .word), kindAt wit.cfg.memMap x ≠ .device) ∧
    (∀ x ∈ loadedBytes wit (.movs .word), kindAt wit.cfg.memMap x ≠ .device ∧ kindAt wit.cfg.memMap x ≠ .absent) := by decide

theorem wit_legal : wit.Legal :=
  ⟨by decide, by decide, fun i h => (nomatch (h : none = some i)), fun _ => rfl, fun _ => rfl⟩

theorem inStosb_legal : inStosb.Legal where
  mem_wf := by decide
  one_hold := by decide
  repeats i h := by
    have h : some (Instr.stos .byte) = some i := h
    cases h
    exact ⟨rfl, rfl, by decide⟩
  coherent _ := rfl
  prefixes h := nomatch (h : true = false)

theorem witness_LegalKept : wit.Legal ∧ inStosb.Legal ∧ nextIs (step inStosb) (·.regs.cx == 1) = true :=
  ⟨wit_legal, inStosb_legal, by decide⟩

theorem witness_ResetLine : (wit.setInputs [{ Lines.quiet with reset := true }]).inputs =
    { Lines.quiet with reset := true } :: [] ∧ ({ Lines.quiet with reset := true } : Lines).reset = true := ⟨rfl, rfl⟩

/-- `wit` with a boundary due, IF, a latched NMI, a request of type 3 on the next sample, and a shadow. -/
def due (tf shadow nmi req : Bool) : State :=
  ((((wit.setBoundary (some tf)).setIntInhibit shadow).setNmiLatched nmi).setFlags { wit.flags with ifl := true }).setInputs
    [{ Lines.quiet with intr := req, intrType := 3 }]

/-- Vectors for types 1 and 2 beside those of `wit`. -/
def dueVectors (tf shadow nmi req : Bool) : State :=
  (due tf shadow nmi req).setMem ([(4, 0), (5, 7), (6, 0), (7, 0xF0), (8, 0), (9, 6), (10, 0), (11, 0xF0)].foldl
    (fun m c => Memory.write m c.1 c.2) wit.mem)

/-- The state that the boundary of `s` looks at. -/
def atItsBoundary (s : State) : State := s.sample.setBoundary none

/-- What `witness_BoundaryOrder` says of a boundary: due, no RESET, and which of the conditions hold. -/
def boundaryIs (s : State) (tf shadow nmi req : Bool) : Bool :=
  s.boundary == some tf && !s.sample.lines.reset && (atItsBoundary s).intInhibit == shadow && (atItsBoundary s).nmiLatched == nmi &&
    (atItsBoundary s).lines.intr == req && (atItsBoundary s).flags.ifl

theorem witness_BoundaryOrder_shadow : boundaryIs (dueVectors true true true true) true true true true = true := by decide

theorem witness_BoundaryOrder_nmi : boundaryIs (dueVectors true false true true) true false true true = true ∧
    nextIs (runOp (do interrupt 2 0x7F; interrupt 1 (← get).ip) (atItsBoundary (dueVectors true false true true)))
      (·.ip == 0x700) = true := by decide

theorem witness_BoundaryOrder_request : boundaryIs (dueVectors true false false true) true false false true = true ∧
    nextIs (runOp (interrupt 3 0x7F) (atItsBoundary (dueVectors true false false true))) (·.ip == 0x200) = true ∧
    nextIs (step (dueVectors true false false true)) (fun t => t.ip == 0x200 && t.boundary == some true && !t.flags.ifl) = true := by
  decide

/-- After the sequence of a request of type 3, with TF of before set, an NMI arrives: its sequence and then the trap's run before
the handler at F000:0200, so the single-step handler at 0700h is entered first and 0600h lies above it on the stack. -/
theorem test_nmi_during_request : nextIs (step (((dueVectors true false false false).setInputs [{ Lines.quiet with nmi := true }]).setIp
      0x200)) (fun t => t.ip == 0x700 && t.boundary == none && t.regs.sp == 0xF0 && t.byteAt 0x30F0 == some 0 &&
        t.byteAt 0x30F1 == some 6 && t.byteAt 0x30F6 == some 0 && t.byteAt 0x30F7 == some 2) = true := by decide

theorem witness_BoundaryOrder_trap : boundaryIs (dueVectors true false false false) true false false false = true ∧
    nextIs (runOp (interrupt 1 0x7F) (atItsBoundary (dueVectors true false false false))) (·.ip == 0x700) = true ∧
    boundaryIs (dueVectors false false false false) false false false false = true := by decide

/-- Halted, or waiting with TEST as given. -/
def held (halted test : Bool) : State :=
  (((wit.setHalted halted).setWaiting (!halted)).setBoundary (some false)).setInputs [{ Lines.quiet with test := test }]

/-- What the hypotheses of HoldsPersist say of a held state. -/
def holdIs (s : State) (halted test : Bool) : Bool :=
  !s.sample.lines.reset && !s.sample.nmiLatched && !s.flags.ifl && !s.intInhibit && s.boundary == some false &&
    s.halted == halted && s.waiting == !halted && s.sample.lines.test == test

theorem witness_HoldsPersist : holdIs (held true true) true true = true ∧ holdIs (held false false) false false = true ∧
    holdIs (held false true) false true = true := by decide

theorem witness_EndedRunsStay : (held true true).Ended := by
  refine ⟨rfl, rfl, rfl, rfl, Or.inr rfl, fun l h => ?_⟩
  cases h with
  | head => exact ⟨rfl, rfl⟩
  | tail _ h => cases h

end Sys2Proof.Tests
end

/-! ## The frame of an instruction: the relation and its rules

`Keeps e transfer s t` says that a run from `s` to `t` changes nothing but by the effects `e`. It has one rule per operation of the
state, one lemma per instruction form, and `exec_keeps` for all instructions with the effects that the lists of the model name; the
frames of registers, flags, hidden state and memory are its fields. -/

namespace Sys2Proof.Machine

/-! ### Flags -/

/-- The named flags at the positions where `m` has a 0 are the same (10_state.md R40). -/
structure Flags.AgreeOff (m : Word) (f g : Flags) : Prop where
  cf : m.getLsbD 0 = false → g.cf = f.cf
  pf : m.getLsbD 2 = false → g.pf = f.pf
  af : m.getLsbD 4 = false → g.af = f.af
  zf : m.getLsbD 6 = false → g.zf = f.zf
  sf : m.getLsbD 7 = false → g.sf = f.sf
  tf : m.getLsbD 8 = false → g.tf = f.tf
  ifl : m.getLsbD 9 = false → g.ifl = f.ifl
  df : m.getLsbD 10 = false → g.df = f.df
  ofl : m.getLsbD 11 = false → g.ofl = f.ofl

theorem Flags.AgreeOff.refl (m : Word) (f : Flags) : f.AgreeOff m f :=
  ⟨fun _ => rfl, fun _ => rfl, fun _ => rfl, fun _ => rfl, fun _ => rfl, fun _ => rfl, fun _ => rfl, fun _ => rfl,
    fun _ => rfl⟩

theorem Flags.AgreeOff.trans {m : Word} {f g k : Flags} (h : f.AgreeOff m g) (h' : g.AgreeOff m k) : f.AgreeOff m k where
  cf e := (h'.cf e).trans (h.cf e)
  pf e := (h'.pf e).trans (h.pf e)
  af e := (h'.af e).trans (h.af e)
  zf e := (h'.zf e).trans (h.zf e)
  sf e := (h'.sf e).trans (h.sf e)
  tf e := (h'.tf e).trans (h.tf e)
  ifl e := (h'.ifl e).trans (h.ifl e)
  df e := (h'.df e).trans (h.df e)
  ofl e := (h'.ofl e).trans (h.ofl e)

/-- The mask of the six status flags: what is left to agree are TF, IF and DF. -/
theorem Flags.AgreeOff.of_control {f g : Flags} (h : SameControl f g) : f.AgreeOff 0x08D5 g where
  cf := nofun
  pf := nofun
  af := nofun
  zf := nofun
  sf := nofun
  tf _ := h.1
  ifl _ := h.2.1
  df _ := h.2.2
  ofl := nofun

/-- The named flag at a position of FLAGS (10_state.md R40), `false` at the unnamed positions. -/
def Flags.bitAt (f : Flags) : Nat → Bool
  | 0 => f.cf | 2 => f.pf | 4 => f.af | 6 => f.zf | 7 => f.sf | 8 => f.tf | 9 => f.ifl | 10 => f.df | 11 => f.ofl
  | _ => false

/-- The FLAGS word is the named flags at their places over the fixed unnamed bits (10_state.md R40, R41). -/
theorem Flags.toWord_getLsbD (cfg : Config) (f : Flags) {i : Nat} (hi : i < 16) :
    (f.toWord cfg).getLsbD i = ((cfg.flagsValue &&& cfg.flagsMask &&& unnamedFlags).getLsbD i || f.bitAt i) := by
  simp only [Flags.toWord, BitVec.getLsbD_or]
  congr 1
  interval_cases i <;> simp only [BitVec.getLsbD_append] <;> simp [Flags.bitAt]

theorem Flags.AgreeOff.toWord {m : Word} {f g : Flags} (h : f.AgreeOff m g) (cfg : Config) :
    g.toWord cfg &&& ~~~m = f.toWord cfg &&& ~~~m := by
  refine BitVec.eq_of_getLsbD_eq fun i hi => ?_
  cases hm : m.getLsbD i with
  | true => simp [hm]
  | false =>
    simp only [BitVec.getLsbD_and, BitVec.getLsbD_not, Flags.toWord_getLsbD _ _ hi]
    obtain ⟨h0, h2, h4, h6, h7, h8, h9, h10, h11⟩ := h
    interval_cases i <;> simp_all [Flags.bitAt]

/-! ### The relation -/

/-- What a run may change: general and segment registers, bits of FLAGS, the physical addresses that it may read and store to, and
whether it may write hidden state, use a port, draw. -/
structure Effects where
  regs : List RegNum := []
  segs : List SReg := []
  flags : Word := 0
  loads : List Nat := []
  stores : List Nat := []
  hidden : Bool := false
  ports : Bool := false
  draws : Bool := false

/-- The fields that no instruction writes (10_state.md R57). -/
def State.given (s : State) : Config × Lines × List Lines × Bool × Word × Option Bool :=
  (s.cfg, s.lines, s.inputs, s.nmiLatched, s.start, s.boundary)

/-- The shadow, the holds, the state of the bytes read before an instruction, and the repetition. -/
def State.holds (s : State) : Bool × Bool × Bool × Prefixes × Option Instr :=
  (s.intInhibit, s.halted, s.waiting, s.pfx, s.repeating)

/-- What stands between the machine and the platform: the memory map, the trace, the answers to come and the count of draws. -/
structure Env where
  map : List Region
  events : List Event
  answers : List Word
  draws : Nat

/-- The environment as a state holds it. -/
def State.env (s : State) : Env := ⟨s.cfg.memMap, s.events, s.answers, s.draws⟩

/-- The environment is used in order, and only by a port, a device address or a draw (20_memory.md R91, R95). -/
structure EnvFrame (e : Effects) (a b : Env) : Prop where
  map : b.map = a.map
  trace : ∃ l, b.events = l ++ a.events
  answered : ∃ l, a.answers = l ++ b.answers
  drawn : a.draws ≤ b.draws
  quiet : e.ports = false → (∀ x ∈ e.loads ++ e.stores, kindAt a.map x ≠ .device) → b.events = a.events ∧ b.answers = a.answers
  undrawn : e.draws = false → (∀ x ∈ e.loads, kindAt a.map x ≠ .device ∧ kindAt a.map x ≠ .absent) → b.draws = a.draws

/-- What the next fetch depends on besides memory: IP and the bytes kept for it (20_memory.md R104). -/
structure Ahead where
  ip : Word
  stale : List (Nat × Option Byte)

/-- IP and the bytes kept for the fetch, as a state holds them. -/
def State.ahead (s : State) : Ahead := ⟨s.ip, s.stale⟩

/-- Without a transfer (`false`) IP stays and bytes are kept only of addresses stored to; with one, all are discarded, or it was
not taken and nothing changes (20_memory.md R104). -/
def AheadFrame (stores : List Nat) : Bool → Ahead → Ahead → Prop
  | false, a, b => b.ip = a.ip ∧ ∃ l, b.stale = l ++ a.stale ∧ ∀ p ∈ l, p.1 ∈ stores
  | true, a, b => b.stale = [] ∨ (b.stale = a.stale ∧ b.ip = a.ip)

/-- From `s` to `t` nothing changes but by the effects `e`; `transfer` says whether IP may. -/
structure Keeps (e : Effects) (transfer : Bool) (s t : State) : Prop where
  regs : ∀ r, r ∉ e.regs → t.reg16 r = s.reg16 r
  segs : ∀ n, n ∉ e.segs → t.sreg n = s.sreg n
  flags : s.flags.AgreeOff e.flags t.flags
  given : t.given = s.given
  holds : e.hidden = false → t.holds = s.holds
  env : EnvFrame e s.env t.env
  ahead : AheadFrame e.stores transfer s.ahead t.ahead
  mem : ∀ x, x ∉ e.stores → t.byteAt x = s.byteAt x

section
variable {e : Effects} {tr : Bool} {s t u : State}

theorem EnvFrame.refl (e : Effects) (a : Env) : EnvFrame e a a :=
  ⟨rfl, ⟨[], rfl⟩, ⟨[], rfl⟩, le_rfl, fun _ _ => ⟨rfl, rfl⟩, fun _ _ => rfl⟩

theorem EnvFrame.trans {a b c : Env} (h : EnvFrame e a b) (h' : EnvFrame e b c) : EnvFrame e a c where
  map := h'.map.trans h.map
  trace := by
    obtain ⟨l, hl⟩ := h.trace
    obtain ⟨l', hl'⟩ := h'.trace
    exact ⟨l' ++ l, by rw [hl', hl, List.append_assoc]⟩
  answered := by
    obtain ⟨l, hl⟩ := h.answered
    obtain ⟨l', hl'⟩ := h'.answered
    exact ⟨l ++ l', by rw [hl, hl', List.append_assoc]⟩
  drawn := h.drawn.trans h'.drawn
  quiet hp hx := by
    obtain ⟨hev, han⟩ := h.quiet hp hx
    obtain ⟨hev', han'⟩ := h'.quiet hp (by rwa [h.map])
    exact ⟨hev'.trans hev, han'.trans han⟩
  undrawn hd hx := (h'.undrawn hd (by rwa [h.map])).trans (h.undrawn hd hx)

theorem AheadFrame.refl (stores : List Nat) (tr : Bool) (a : Ahead) : AheadFrame stores tr a a := by
  cases tr with
  | false => exact ⟨rfl, [], rfl, nofun⟩
  | true => exact .inr ⟨rfl, rfl⟩

theorem AheadFrame.trans {stores : List Nat} {a b c : Ahead} (h : AheadFrame stores tr a b) (h' : AheadFrame stores tr b c) :
    AheadFrame stores tr a c := by
  cases tr with
  | false =>
    obtain ⟨hip, l, hl, hm⟩ := h
    obtain ⟨hip', l', hl', hm'⟩ := h'
    refine ⟨hip'.trans hip, l' ++ l, by rw [hl', hl, List.append_assoc], fun p hp => ?_⟩
    exact (List.mem_append.1 hp).elim (hm' p) (hm p)
  | true =>
    rcases h' with h' | ⟨hst', hip'⟩
    · exact .inl h'
    · rcases h with h | ⟨hst, hip⟩
      · exact .inl (hst'.trans h)
      · exact .inr ⟨hst'.trans hst, hip'.trans hip⟩

theorem Keeps.refl (e : Effects) (tr : Bool) (s : State) : Keeps e tr s s where
  regs _ _ := rfl
  segs _ _ := rfl
  flags := .refl _ _
  given := rfl
  holds _ := rfl
  env := .refl e s.env
  ahead := .refl _ tr s.ahead
  mem _ _ := rfl

theorem Keeps.trans (h : Keeps e tr s t) (h' : Keeps e tr t u) : Keeps e tr s u where
  regs r hr := (h'.regs r hr).trans (h.regs r hr)
  segs n hn := (h'.segs n hn).trans (h.segs n hn)
  flags := h.flags.trans h'.flags
  given := h'.given.trans h.given
  holds he := (h'.holds he).trans (h.holds he)
  env := h.env.trans h'.env
  ahead := h.ahead.trans h'.ahead
  mem x hx := (h'.mem x hx).trans (h.mem x hx)

/-! ### One rule per operation: the effects allow it, so the frame goes on to the state after it -/

theorem Keeps.setReg16 (h : Keeps e tr s t) {r : RegNum} (hr : r ∈ e.regs) (v : Word) : Keeps e tr s (t.setReg16 r v) :=
  h.trans { Keeps.refl e tr t with regs := fun _ hk => Regs.get_set_other _ _ fun heq => hk (heq ▸ hr) }

theorem Keeps.setReg8 (h : Keeps e tr s t) {r : RegNum} (hr : (byteHome r).1 ∈ e.regs) (v : Byte) :
    Keeps e tr s (t.setReg8 r v) := by
  obtain ⟨w, hw⟩ := setReg8_eq t r v
  exact hw ▸ h.setReg16 hr w

theorem Keeps.setReg (h : Keeps e tr s t) {w : Width} {r : RegNum} (hr : homeReg w r ∈ e.regs) (v : BitVec w.bits) :
    Keeps e tr s (t.setReg w r v) := by
  cases w with
  | byte => exact h.setReg8 hr v
  | word => exact h.setReg16 hr v

theorem Keeps.setSreg (h : Keeps e tr s t) {n : SReg} (hn : n ∈ e.segs) (v : Word) : Keeps e tr s (t.setSreg n v) :=
  h.trans { Keeps.refl e tr t with segs := fun _ hk => Segs.get_set_other _ _ fun heq => hk (heq ▸ hn) }

theorem Keeps.setFlags (h : Keeps e tr s t) {f : Flags} (hf : t.flags.AgreeOff e.flags f) : Keeps e tr s (t.setFlags f) :=
  h.trans { Keeps.refl e tr t with flags := hf }

theorem Keeps.setIntInhibit (h : Keeps e tr s t) (he : e.hidden = true) (v : Bool) : Keeps e tr s (t.setIntInhibit v) :=
  h.trans { Keeps.refl e tr t with holds := by simp [he] }

theorem Keeps.setHalted (h : Keeps e tr s t) (he : e.hidden = true) (v : Bool) : Keeps e tr s (t.setHalted v) :=
  h.trans { Keeps.refl e tr t with holds := by simp [he] }

theorem Keeps.setWaiting (h : Keeps e tr s t) (he : e.hidden = true) (v : Bool) : Keeps e tr s (t.setWaiting v) :=
  h.trans { Keeps.refl e tr t with holds := by simp [he] }

theorem Keeps.setPfx (h : Keeps e tr s t) (he : e.hidden = true) (v : Prefixes) : Keeps e tr s (t.setPfx v) :=
  h.trans { Keeps.refl e tr t with holds := by simp [he] }

theorem Keeps.setRepeating (h : Keeps e tr s t) (he : e.hidden = true) (v : Option Instr) : Keeps e tr s (t.setRepeating v) :=
  h.trans { Keeps.refl e tr t with holds := by simp [he] }

/-- A taken transfer: what led to it was none. -/
theorem Keeps.jump (h : Keeps e false s t) (off : Word) : Keeps e true s (t.jump off) :=
  { h with ahead := .inl rfl }

theorem Keeps.jumpFar (h : Keeps e false s t) (hcs : .cs ∈ e.segs) (seg off : Word) : Keeps e true s (t.jumpFar seg off) :=
  (h.setSreg hcs seg).jump off

end


end Sys2Proof.Machine

/-! ## The frame of the accesses -/

namespace Sys2Proof.Machine

section
variable {e : Effects} {tr : Bool} {s t u : State}

theorem Keeps.cfg (h : Keeps e tr s t) : t.cfg = s.cfg := congrArg Prod.fst h.given

theorem Keeps.drew (h : Keeps e tr s t) (hd : e.draws = true) : Keeps e tr s t.drew :=
  h.trans { Keeps.refl e tr t with
    env := ⟨rfl, ⟨[], rfl⟩, ⟨[], rfl⟩, Nat.le_succ _, fun _ _ => ⟨rfl, rfl⟩, by simp [hd]⟩ }

/-- An answer is the next of those to come, or a draw where there is none (20_memory.md R91, R95). -/
theorem answer_ok {a : Word} (h : answer s = .ok (a, t)) :
    (∃ rest, s.answers = a :: rest ∧ t = s.setAnswers rest) ∨ t = s.drew := by
  unfold answer at h
  split at h
  · rename_i b rest hs
    cases h
    exact .inl ⟨rest, hs, rfl⟩
  · cases h
    exact .inr rfl

/-- An answered access that goes on the trace: the effects must name its port or its device address, and that it may draw. -/
theorem EnvFrame.of_answer {a : Word} (h : answer s = .ok (a, t)) (ev : Event)
    (hq : e.ports = true ∨ ∃ x ∈ e.loads, kindAt s.cfg.memMap x = .device)
    (hd : e.draws = true ∨ ∃ x ∈ e.loads, kindAt s.cfg.memMap x = .device) : EnvFrame e s.env (t.record ev).env := by
  have hquiet : e.ports = false → ¬ ∀ x ∈ e.loads ++ e.stores, kindAt s.cfg.memMap x ≠ .device := by
    rintro hp hx
    obtain hq | ⟨x, hm, hk⟩ := hq
    · simp [hp] at hq
    · exact hx x (List.mem_append_left _ hm) hk
  have hundrawn : e.draws = false → ¬ ∀ x ∈ e.loads, kindAt s.cfg.memMap x ≠ .device ∧ kindAt s.cfg.memMap x ≠ .absent := by
    rintro hp hx
    obtain hd | ⟨x, hm, hk⟩ := hd
    · simp [hp] at hd
    · exact (hx x hm).1 hk
  obtain ⟨rest, hs, rfl⟩ | rfl := answer_ok h
  · exact ⟨rfl, ⟨[ev], rfl⟩, ⟨[a], hs⟩, le_rfl, fun hp hx => absurd hx (hquiet hp), fun _ _ => rfl⟩
  · exact ⟨rfl, ⟨[ev], rfl⟩, ⟨[], rfl⟩, Nat.le_succ _, fun hp hx => absurd hx (hquiet hp), fun hp hx => absurd hx (hundrawn hp)⟩

/-- Only the environment changes. -/
theorem Keeps.ofEnv (h : Keeps e tr s t) {a : List Word} {l : List Event} {d : Nat}
    (henv : EnvFrame e t.env (((t.setAnswers a).setEvents l).setDraws d).env) :
    Keeps e tr s (((t.setAnswers a).setEvents l).setDraws d) :=
  h.trans { Keeps.refl e tr t with env := henv }

theorem EnvFrame.of_readByte {x : Nat} {v : Byte} (hx : x ∈ e.loads) (h : readByte x s = .ok (v, t)) :
    EnvFrame e s.env t.env := by
  unfold readByte at h
  split at h
  case h_1 =>
    split at h <;> cases h
    exact .refl e s.env
  case h_2 =>
    split at h <;> cases h
    exact .refl e s.env
  case h_3 hk =>
    obtain ⟨a, t', hdraw, hret⟩ := Op.bind_ok h
    cases hdraw
    cases hret
    exact ⟨rfl, ⟨[], rfl⟩, ⟨[], rfl⟩, Nat.le_succ _, fun _ _ => ⟨rfl, rfl⟩, fun _ hall => absurd hk (hall x hx).2⟩
  case h_4 hk =>
    obtain ⟨a, t', hans, h⟩ := Op.bind_ok h
    obtain ⟨_, t'', hrec, hret⟩ := Op.bind_ok h
    cases hrec
    cases hret
    exact .of_answer hans _ (.inr ⟨x, hx, hk⟩) (.inr ⟨x, hx, hk⟩)

theorem Keeps.readByte {x : Nat} {v : Byte} (h : Keeps e tr s t) (hx : x ∈ e.loads) (hr : readByte x t = .ok (v, u)) :
    Keeps e tr s u := by
  have henv := EnvFrame.of_readByte hx hr
  obtain ⟨a, l, d, rfl⟩ := readByte_ok hr
  exact h.ofEnv henv

/-- The addresses of an access depend on the parameters alone. -/
theorem accessBytes_of_cfg (h : t.cfg = s.cfg) (w : Width) (seg off : Word) :
    t.accessBytes w seg off = s.accessBytes w seg off := by
  cases w <;> simp [State.accessBytes, h]

theorem Keeps.load {w : Width} {seg off : Word} {v : BitVec w.bits} (h : Keeps e tr s t)
    (hx : s.accessBytes w seg off ⊆ e.loads) (hl : load w seg off t = .ok (v, u)) : Keeps e tr s u := by
  rw [← accessBytes_of_cfg h.cfg] at hx
  cases w with
  | byte =>
    obtain ⟨_, _, hget, hl⟩ := Op.bind_ok hl
    cases hget
    exact h.readByte (hx (List.mem_singleton_self _)) hl
  | word =>
    obtain ⟨_, _, hget, hl⟩ := Op.bind_ok hl
    cases hget
    obtain ⟨lo, t', hlo, hl⟩ := Op.bind_ok hl
    obtain ⟨_, _, hget, hl⟩ := Op.bind_ok hl
    cases hget
    obtain ⟨hi, u, hhi, hret⟩ := Op.bind_ok hl
    cases hret
    have h' := h.readByte (hx (by simp [State.accessBytes])) hlo
    exact h'.readByte (hx (by simp [State.accessBytes, h'.cfg, h.cfg])) hhi

theorem Keeps.readLoc {w : Width} {l : Loc} {v : BitVec w.bits} (h : Keeps e tr s t) (hx : s.locBytes w l ⊆ e.loads)
    (hl : readLoc w l t = .ok (v, u)) : Keeps e tr s u := by
  cases l with
  | reg r =>
    cases hl
    exact h
  | mem seg off => exact h.load hx hl

/-- A port read changes at most the environment's fields. -/
theorem ioRead_ok {w : Width} {port : Word} {v : BitVec w.bits} (h : ioRead w port s = .ok (v, t)) :
    ∃ a l d, t = ((s.setAnswers a).setEvents l).setDraws d := by
  obtain ⟨a, t', hans, h⟩ := Op.bind_ok h
  obtain ⟨_, t'', hrec, hret⟩ := Op.bind_ok h
  cases hrec
  cases hret
  obtain ⟨rest, _, rfl⟩ | rfl := answer_ok hans
  · exact ⟨rest, _ :: s.events, s.draws, rfl⟩
  · exact ⟨s.answers, _ :: s.events, s.draws + 1, rfl⟩

theorem EnvFrame.of_ioRead {w : Width} {port : Word} {v : BitVec w.bits} (hp : e.ports = true) (hd : e.draws = true)
    (h : ioRead w port s = .ok (v, t)) : EnvFrame e s.env t.env := by
  obtain ⟨a, t', hans, h⟩ := Op.bind_ok h
  obtain ⟨_, t'', hrec, hret⟩ := Op.bind_ok h
  cases hrec
  cases hret
  exact .of_answer hans _ (.inl hp) (.inl hd)

theorem Keeps.ioRead {w : Width} {port : Word} {v : BitVec w.bits} (h : Keeps e tr s t) (hp : e.ports = true)
    (hd : e.draws = true) (hr : ioRead w port t = .ok (v, u)) : Keeps e tr s u := by
  have henv := EnvFrame.of_ioRead hp hd hr
  obtain ⟨a, l, d, rfl⟩ := ioRead_ok hr
  exact h.ofEnv henv

theorem Keeps.ioWrite (h : Keeps e tr s t) (hp : e.ports = true) (w : Width) (port : Word) (v : BitVec w.bits) :
    Keeps e tr s (t.ioWrite w port v) :=
  h.trans { Keeps.refl e tr t with
    env := ⟨rfl, ⟨[_], rfl⟩, ⟨[], rfl⟩, le_rfl, by simp [hp], fun _ _ => rfl⟩ }

/-- A store goes on the trace exactly where it is handed to a device (20_memory.md R87, R95). -/
theorem storeByte_events (s : State) (x : Nat) (v : Byte) :
    (s.storeByte x v).events = if kindAt s.cfg.memMap x = .device then .memWrite x v :: s.events else s.events := by
  unfold State.storeByte
  split <;> rename_i hk <;> simp [hk, State.record, State.noteStale]
  split <;> rfl

theorem EnvFrame.of_storeByte {x : Nat} (hx : x ∈ e.stores) (s : State) (v : Byte) : EnvFrame e s.env (s.storeByte x v).env := by
  have hev := storeByte_events s x v
  refine ⟨by simp [State.env], ?_, ⟨[], by simp [State.env]⟩, by simp [State.env], fun _ hall => ?_, fun _ _ => by simp [State.env]⟩
  · split at hev
    · exact ⟨[_], hev⟩
    · exact ⟨[], hev⟩
  · rw [if_neg (show kindAt s.cfg.memMap x ≠ .device from hall x (List.mem_append_right _ hx))] at hev
    exact ⟨hev, by simp [State.env]⟩

theorem AheadFrame.of_storeByte {stores : List Nat} {x : Nat} (hx : x ∈ stores) (s : State) (v : Byte) :
    AheadFrame stores false s.ahead (s.storeByte x v).ahead := by
  refine ⟨by simp [State.ahead], ?_⟩
  have hst := storeByte_stale s x v
  split at hst
  · exact ⟨[_], hst, by simpa using hx⟩
  · exact ⟨[], hst, nofun⟩

theorem Keeps.storeByte {x : Nat} (h : Keeps e false s t) (hx : x ∈ e.stores) (v : Byte) : Keeps e false s (t.storeByte x v) :=
  h.trans
    { regs := fun r _ => by simp [State.reg16]
      segs := fun n _ => by simp [State.sreg]
      flags := by simpa using .refl _ _
      given := by simp [State.given]
      holds := fun _ => by simp [State.holds]
      env := .of_storeByte hx t v
      ahead := .of_storeByte hx t v
      mem := fun y hy => storeByte_other t v fun heq => hy (heq ▸ hx) }

theorem Keeps.store {w : Width} {seg off : Word} (h : Keeps e false s t) (hx : s.accessBytes w seg off ⊆ e.stores)
    (v : BitVec w.bits) : Keeps e false s (t.store w seg off v) := by
  rw [← accessBytes_of_cfg h.cfg] at hx
  cases w with
  | byte => exact h.storeByte (hx (List.mem_singleton_self _)) _
  | word => exact (h.storeByte (hx (by simp [State.accessBytes])) _).storeByte (hx (by simp [State.accessBytes])) _

theorem Keeps.writeLoc {w : Width} {l : Loc} (h : Keeps e false s t) (hr : ∀ r, l = .reg r → homeReg w r ∈ e.regs)
    (hx : s.locBytes w l ⊆ e.stores) (v : BitVec w.bits) : Keeps e false s (t.writeLoc w l v) := by
  cases l with
  | reg r => exact h.setReg (hr r rfl) v
  | mem seg off => exact h.store hx v

end

end Sys2Proof.Machine

/-! ## The frame of the instruction forms -/

namespace Sys2Proof.Machine

section
variable {e : Effects} {tr : Bool} {s t u : State} {m : Word} {d : Bool} {α : Type}

/-- A sequence that begins with a look at the state goes on from that state. -/
theorem Op.get_bind_ok {β : Type} {f : State → Op β} {p : β × State} (h : (get >>= f) s = .ok p) : f s s = .ok p := h

/-! ### Operations on values -/

/-- The operation writes no more than the flags of the mask `m`, and draws only if `d`. -/
def OnlyFlags (m : Word) (d : Bool) (o : Op α) : Prop :=
  ∀ {e : Effects} {tr : Bool} {s t : State} {v : α}, e.flags = m → e.draws = d → o s = .ok (v, t) → Keeps e tr s t

theorem Flags.add_control {n : Nat} (f : Flags) (a b : BitVec n) (c : Bool) : SameControl f (f.add a b c) := ⟨rfl, rfl, rfl⟩

theorem Flags.sub_control {n : Nat} (f : Flags) (a b : BitVec n) (c : Bool) : SameControl f (f.sub a b c) := ⟨rfl, rfl, rfl⟩

theorem Flags.logic_control {n : Nat} (f : Flags) (a : BitVec n) (u : Word) : SameControl f (f.logic a u) := ⟨rfl, rfl, rfl⟩

/-- Flags that keep TF, IF and DF are within the mask of the six status flags. -/
theorem Keeps.setStatus (h : Keeps e tr s t) (he : e.flags = 0x08D5) {f : Flags} (hf : SameControl t.flags f) :
    Keeps e tr s (t.setFlags f) :=
  h.setFlags (he ▸ .of_control hf)

theorem addOp_flags (w : Width) (a b : BitVec w.bits) : OnlyFlags 0x08D5 false (addOp w a b) := by
  intro e tr s t v hm _ h
  cases h
  exact (Keeps.refl e tr s).setStatus hm (Flags.add_control ..)

theorem adcOp_flags (w : Width) (a b : BitVec w.bits) : OnlyFlags 0x08D5 false (adcOp w a b) := by
  intro e tr s t v hm _ h
  cases h
  exact (Keeps.refl e tr s).setStatus hm (Flags.add_control ..)

theorem subOp_flags (w : Width) (a b : BitVec w.bits) : OnlyFlags 0x08D5 false (subOp w a b) := by
  intro e tr s t v hm _ h
  cases h
  exact (Keeps.refl e tr s).setStatus hm (Flags.sub_control ..)

theorem sbbOp_flags (w : Width) (a b : BitVec w.bits) : OnlyFlags 0x08D5 false (sbbOp w a b) := by
  intro e tr s t v hm _ h
  cases h
  exact (Keeps.refl e tr s).setStatus hm (Flags.sub_control ..)

theorem logicOp_flags (w : Width) (a : BitVec w.bits) : OnlyFlags 0x08D5 true (logicOp w a) := by
  intro e tr s t v hm hd h
  cases h
  exact ((Keeps.refl e tr s).drew hd).setStatus hm (Flags.logic_control ..)

/-- INC and DEC: the status flags but CF (41_arithmetic.md R252, R255). -/
theorem Flags.AgreeOff.of_keepCarry {f g : Flags} (h : SameControl f g) : f.AgreeOff 0x08D4 { g with cf := f.cf } :=
  { Flags.AgreeOff.of_control h with cf := fun _ => rfl, pf := nofun, af := nofun, zf := nofun, sf := nofun, ofl := nofun }

theorem incOp_flags (w : Width) (a : BitVec w.bits) : OnlyFlags 0x08D4 false (incOp w a) := by
  intro e tr s t v hm _ h
  cases h
  exact (Keeps.refl e tr s).setFlags (hm ▸ .of_keepCarry (Flags.add_control ..))

theorem decOp_flags (w : Width) (a : BitVec w.bits) : OnlyFlags 0x08D4 false (decOp w a) := by
  intro e tr s t v hm _ h
  cases h
  exact (Keeps.refl e tr s).setFlags (hm ▸ .of_keepCarry (Flags.sub_control ..))

theorem notOp_flags (w : Width) (a : BitVec w.bits) : OnlyFlags 0 false (notOp w a) := by
  intro e tr s t v _ _ h
  cases h
  exact .refl e tr s

/-! ### Operands -/

theorem homeReg_mem_rmRegs {w : Width} {rm : RM} {r : RegNum} (h : s.locate rm = .reg r) : homeReg w r ∈ rmRegs w rm := by
  cases rm with
  | reg r' =>
    cases h
    exact List.mem_singleton_self _
  | mem m => cases h

theorem readRM_keeps {w : Width} {rm : RM} {v : BitVec w.bits} (hx : s.locBytes w (s.locate rm) ⊆ e.loads)
    (h : readRM w rm s = .ok (v, t)) : Keeps e tr s t :=
  (Keeps.refl e tr s).readLoc hx (Op.get_bind_ok h)

theorem readPair_keeps {m : MemEA} {p : Word × Word} (hx : s.pairBytes m ⊆ e.loads) (h : readPair m s = .ok (p, t)) :
    Keeps e tr s t := by
  obtain ⟨a, t', ha, h⟩ := Op.bind_ok (Op.get_bind_ok h)
  obtain ⟨b, t'', hb, h⟩ := Op.bind_ok h
  cases h
  exact ((Keeps.refl e tr s).load (List.append_subset.1 hx).1 ha).load (List.append_subset.1 hx).2 hb

/-- The shape that the r/m destinations share: read a place, compute, write the place. -/
def modifyRM {w : Width} (o : BitVec w.bits → Op (BitVec w.bits)) (rm : RM) : Op Unit := do
  let l := (← get).locate rm
  let a ← readLoc w l
  let v ← o a
  Op.update (·.writeLoc w l v)

/-- The effects of a form with an r/m destination that it also reads. -/
abbrev rmEffects (s : State) (w : Width) (rm : RM) (m : Word) (d : Bool) : Effects :=
  { regs := rmRegs w rm, flags := m, loads := s.locBytes w (s.locate rm), stores := s.locBytes w (s.locate rm), draws := d }

theorem modifyRM_keeps {w : Width} {rm : RM} {o : BitVec w.bits → Op (BitVec w.bits)} (ho : ∀ a, OnlyFlags m d (o a))
    (h : modifyRM o rm s = .ok ((), t)) : Keeps (rmEffects s w rm m d) false s t := by
  obtain ⟨a, s1, hread, h⟩ := Op.bind_ok (Op.get_bind_ok h)
  obtain ⟨v, s2, hop, h⟩ := Op.bind_ok h
  cases h
  have hk := ((Keeps.refl (rmEffects s w rm m d) false s).readLoc (List.Subset.refl _) hread).trans (ho a rfl rfl hop)
  exact hk.writeLoc (fun _ => homeReg_mem_rmRegs) (List.Subset.refl _) v

theorem unary_keeps {w : Width} {rm : RM} {op : (w : Width) → BitVec w.bits → Op (BitVec w.bits)}
    (hop : ∀ w a, OnlyFlags m d (op w a)) (h : unary op w rm s = .ok ((), t)) : Keeps (rmEffects s w rm m d) false s t :=
  modifyRM_keeps (hop w) h

theorem binRmVal_keeps {op : BinOp} (hop : ∀ w a b, OnlyFlags m d (op w a b)) {w : Width} {rm : RM} {b : BitVec w.bits}
    (h : binRmVal op w rm b s = .ok ((), t)) : Keeps (rmEffects s w rm m d) false s t :=
  modifyRM_keeps (fun a => hop w a b) h

theorem binRmReg_keeps {op : BinOp} (hop : ∀ w a b, OnlyFlags m d (op w a b)) {w : Width} {rm : RM} {r : RegNum}
    (h : binRmReg op w rm r s = .ok ((), t)) : Keeps (rmEffects s w rm m d) false s t :=
  modifyRM_keeps (o := fun a => do op w a ((← get).reg w r)) (fun a _ _ s _ _ hm hd => hop w a (s.reg w r) hm hd) h

theorem binRmImm_keeps {op : BinOp} (hop : ∀ w a b, OnlyFlags m d (op w a b)) {rm : RM} {imm : Imm}
    (h : binRmImm op rm imm s = .ok ((), t)) : Keeps (rmEffects s (immWidth imm) rm m d) false s t := by
  cases imm with
  | ib b => exact binRmVal_keeps hop h
  | iw v => exact binRmVal_keeps hop h

theorem binAcc_keeps {op : BinOp} (hop : ∀ w a b, OnlyFlags m d (op w a b)) {imm : Imm}
    (h : binAcc op imm s = .ok ((), t)) : Keeps { regs := [.ax], flags := m, draws := d } false s t := by
  cases imm with
  | ib b => exact binRmVal_keeps hop h
  | iw v => exact binRmVal_keeps hop h

theorem binRegRm_keeps {op : BinOp} (hop : ∀ w a b, OnlyFlags m d (op w a b)) {w : Width} {rm : RM} {r : RegNum}
    (h : binRegRm op w r rm s = .ok ((), t)) :
    Keeps { regs := [homeReg w r], flags := m, loads := s.locBytes w (s.locate rm), draws := d } false s t := by
  obtain ⟨b, s1, hread, h⟩ := Op.bind_ok h
  obtain ⟨v, s2, hop', h⟩ := Op.bind_ok (Op.get_bind_ok h)
  cases h
  exact ((readRM_keeps (List.Subset.refl _) hread).trans (hop _ _ _ rfl rfl hop')).setReg (List.mem_singleton_self _) v

/-- The effects of a form that reads an r/m operand and writes flags only. -/
abbrev testEffects (s : State) (w : Width) (rm : RM) (d : Bool) : Effects :=
  { flags := 0x08D5, loads := s.locBytes w (s.locate rm), draws := d }

theorem test_keeps {w : Width} {rm : RM} {a v : BitVec w.bits} {o : Op (BitVec w.bits)} (ho : OnlyFlags 0x08D5 d o)
    (hread : readRM w rm s = .ok (a, u)) (hop : o u = .ok (v, t)) : Keeps (testEffects s w rm d) false s t :=
  (readRM_keeps (List.Subset.refl _) hread).trans (ho rfl rfl hop)

theorem testRmVal_keeps {op : BinOp} (hop : ∀ w a b, OnlyFlags 0x08D5 d (op w a b)) {w : Width} {rm : RM} {b : BitVec w.bits}
    (h : testRmVal op w rm b s = .ok ((), t)) : Keeps (testEffects s w rm d) false s t := by
  obtain ⟨a, s1, hread, h⟩ := Op.bind_ok h
  obtain ⟨v, s2, hop', h⟩ := Op.bind_ok h
  cases h
  exact test_keeps (hop _ _ _) hread hop'

theorem testRmReg_keeps {op : BinOp} (hop : ∀ w a b, OnlyFlags 0x08D5 d (op w a b)) {w : Width} {rm : RM} {r : RegNum}
    (h : testRmReg op w rm r s = .ok ((), t)) : Keeps (testEffects s w rm d) false s t := by
  obtain ⟨a, s1, hread, h⟩ := Op.bind_ok h
  obtain ⟨v, s2, hop', h⟩ := Op.bind_ok (Op.get_bind_ok h)
  cases h
  exact test_keeps (hop _ _ _) hread hop'

theorem testRegRm_keeps {op : BinOp} (hop : ∀ w a b, OnlyFlags 0x08D5 d (op w a b)) {w : Width} {rm : RM} {r : RegNum}
    (h : testRegRm op w r rm s = .ok ((), t)) : Keeps (testEffects s w rm d) false s t := by
  obtain ⟨a, s1, hread, h⟩ := Op.bind_ok h
  obtain ⟨v, s2, hop', h⟩ := Op.bind_ok (Op.get_bind_ok h)
  cases h
  exact test_keeps (hop _ _ _) hread hop'

theorem testRmImm_keeps {op : BinOp} (hop : ∀ w a b, OnlyFlags 0x08D5 d (op w a b)) {rm : RM} {imm : Imm}
    (h : testRmImm op rm imm s = .ok ((), t)) : Keeps (testEffects s (immWidth imm) rm d) false s t := by
  cases imm with
  | ib b => exact testRmVal_keeps hop h
  | iw v => exact testRmVal_keeps hop h

theorem testAcc_keeps {op : BinOp} (hop : ∀ w a b, OnlyFlags 0x08D5 d (op w a b)) {imm : Imm}
    (h : testAcc op imm s = .ok ((), t)) : Keeps { flags := 0x08D5, draws := d } false s t := by
  cases imm with
  | ib b => exact testRmVal_keeps hop h
  | iw v => exact testRmVal_keeps hop h

end

end Sys2Proof.Machine

/-! ## The frame of shifts, products, quotients and adjustments -/

namespace Sys2Proof.Machine

section
variable {e : Effects} {tr : Bool} {s t u : State} {m : Word} {d : Bool}

/-! ### Shifts and rotates -/

/-- The flags that a shift or rotate may write: a rotate CF and OF only (10_state.md R44). -/
def ShiftKind.mask (k : ShiftKind) : Word := if k.isShift then 0x08D5 else 0x0801

theorem Flags.shifted_agree (f : Flags) (k : ShiftKind) (count : Nat) {n : Nat} (x y : BitVec n) (c : Bool) (u : Word) :
    f.AgreeOff k.mask (f.shifted k count x y c u) := by
  unfold Flags.shifted
  split
  · exact .refl _ _
  · cases hk : k.isShift with
    | true =>
      have hm : k.mask = 0x08D5 := by simp [ShiftKind.mask, hk]
      exact hm ▸ .of_control ⟨rfl, rfl, rfl⟩
    | false =>
      have hm : k.mask = 0x0801 := by simp [ShiftKind.mask, hk]
      exact hm ▸ { Flags.AgreeOff.refl 0x0801 f with cf := nofun, ofl := nofun }

theorem shiftRm_keeps {k : ShiftKind} {w : Width} {n : ShiftBy} {rm : RM} (h : shiftRm k w n rm s = .ok ((), t)) :
    Keeps (rmEffects s w rm k.mask true) false s t := by
  obtain ⟨x, s1, hread, h⟩ := Op.bind_ok (Op.get_bind_ok h)
  have hk := (Keeps.refl (rmEffects s w rm k.mask true) false s).readLoc (List.Subset.refl _) hread
  have hwrite {s2 : State} (h2 : Keeps (rmEffects s w rm k.mask true) false s s2) {y : BitVec w.bits} {c : Bool} {v : Word} :
      Keeps (rmEffects s w rm k.mask true) false s
        ((s2.setFlags (s2.flags.shifted k (s.shiftCount n) x y c v)).writeLoc w (s.locate rm) y) :=
    (h2.setFlags (Flags.shifted_agree ..)).writeLoc (fun _ => homeReg_mem_rmRegs) (List.Subset.refl _) y
  dsimp only at h
  split at h <;> cases h
  · exact hwrite (hk.drew rfl)
  · exact hwrite hk

/-! ### Products and quotients -/

theorem setProduct_keeps {w : Width} {p : BitVec 32} {c : Bool} (hm : e.flags = 0x08D5) (hd : e.draws = true)
    (hax : .ax ∈ e.regs) (hdx : w = .word → .dx ∈ e.regs) (h : setProduct w p c s = .ok ((), t)) : Keeps e tr s t := by
  cases h
  have hk := (Keeps.refl e tr s).drew hd
  cases w with
  | byte => exact (hk.setReg16 hax _).setStatus hm ⟨rfl, rfl, rfl⟩
  | word => exact ((hk.setReg16 hax _).setReg16 (hdx rfl) _).setStatus hm ⟨rfl, rfl, rfl⟩

/-- The word registers that a product or quotient of a width fills (41_arithmetic.md R270 to R273). -/
def wideRegs : Width → List RegNum
  | .byte => [.ax]
  | .word => [.ax, .dx]

/-- The effects of MUL and IMUL. -/
abbrev productEffects (s : State) (w : Width) (rm : RM) : Effects :=
  { regs := wideRegs w, flags := 0x08D5, loads := s.locBytes w (s.locate rm), draws := true }

theorem mem_wideRegs_ax (w : Width) : .ax ∈ wideRegs w := by cases w <;> simp [wideRegs]

theorem mem_wideRegs_dx {w : Width} (h : w = .word) : .dx ∈ wideRegs w := by simp [h, wideRegs]

theorem product_keeps {w : Width} {rm : RM} {b : BitVec w.bits} {p : BitVec 32} {c : Bool}
    (hread : readRM w rm s = .ok (b, u)) (h : setProduct w p c u = .ok ((), t)) : Keeps (productEffects s w rm) false s t :=
  (readRM_keeps (List.Subset.refl _) hread).trans (setProduct_keeps rfl rfl (mem_wideRegs_ax w) mem_wideRegs_dx h)

theorem mulOp_keeps {w : Width} {rm : RM} (h : mulOp w rm s = .ok ((), t)) : Keeps (productEffects s w rm) false s t := by
  obtain ⟨b, s1, hread, h⟩ := Op.bind_ok h
  exact product_keeps hread (Op.get_bind_ok h)

theorem imulOp_keeps {w : Width} {rm : RM} (h : imulOp w rm s = .ok ((), t)) : Keeps (productEffects s w rm) false s t := by
  obtain ⟨b, s1, hread, h⟩ := Op.bind_ok h
  exact product_keeps hread (Op.get_bind_ok h)

theorem Keeps.setQuotient (h : Keeps e tr s t) {w : Width} (hax : .ax ∈ e.regs) (hdx : w = .word → .dx ∈ e.regs)
    (q r : BitVec w.bits) : Keeps e tr s (t.setQuotient w q r) := by
  cases w with
  | byte => exact (h.setReg8 (r := .al) hax q).setReg8 (r := .ah) hax r
  | word => exact (h.setReg16 hax q).setReg16 (hdx rfl) r

/-! ### Adjustments -/

/-- The effects of the ASCII and decimal adjustments. -/
abbrev adjustEffects : Effects := { regs := [.ax], flags := 0x08D5, draws := true }

theorem asciiAdjust_keeps {x c : Byte} (h : asciiAdjust x c s = .ok ((), t)) : Keeps adjustEffects false s t := by
  cases h
  have hk := (Keeps.refl adjustEffects false s).drew rfl
  refine Keeps.setStatus ?_ rfl ⟨rfl, rfl, rfl⟩
  split
  · exact (hk.setReg8 (List.mem_singleton_self _) _).setReg8 (List.mem_singleton_self _) _
  · exact hk.setReg8 (List.mem_singleton_self _) _

theorem decimalAdjust_keeps {x y : Byte} {isOpen : Byte → Flags → Bool} (h : decimalAdjust x y isOpen s = .ok ((), t)) :
    Keeps adjustEffects false s t := by
  cases h
  have hk := ((Keeps.refl adjustEffects false s).drew rfl).drew rfl
  exact (hk.setReg8 (List.mem_singleton_self _) _).setStatus rfl ⟨rfl, rfl, rfl⟩

theorem execAam_keeps (h : execAam s = .next t) : Keeps adjustEffects false s t := by
  cases h
  have hk := (Keeps.refl adjustEffects false s).drew rfl
  exact ((hk.setReg8 (List.mem_singleton_self _) _).setReg8 (List.mem_singleton_self _) _).setStatus rfl ⟨rfl, rfl, rfl⟩

theorem execAad_keeps (h : execAad s = .next t) : Keeps adjustEffects false s t := by
  cases h
  have hk := (Keeps.refl adjustEffects false s).drew rfl
  exact ((hk.setReg8 (List.mem_singleton_self _) _).setReg8 (List.mem_singleton_self _) _).setStatus rfl ⟨rfl, rfl, rfl⟩

/-! ### The stack -/

theorem accessBytes_subset_pushBytes (s : State) {j k : Nat} (hj : j < k) :
    s.accessBytes .word s.segs.ss (s.regs.sp - BitVec.ofNat 16 (2 * (j + 1))) ⊆ s.pushBytes k :=
  fun _ hx => List.mem_flatMap.2 ⟨j, List.mem_range.2 hj, hx⟩

theorem accessBytes_subset_popBytes (s : State) {j k : Nat} (hj : j < k) :
    s.accessBytes .word s.segs.ss (s.regs.sp + BitVec.ofNat 16 (2 * j)) ⊆ s.popBytes k :=
  fun _ hx => List.mem_flatMap.2 ⟨j, List.mem_range.2 hj, hx⟩

theorem accessBytes_subset_frameBytes (s : State) {j level : Nat} (hj : j < level - 1) :
    s.accessBytes .word s.segs.ss (s.regs.bp - BitVec.ofNat 16 (2 * (j + 1))) ⊆ s.frameBytes level :=
  fun _ hx => List.mem_flatMap.2 ⟨j, List.mem_range.2 hj, hx⟩

theorem sub_word_sub_two (x : Word) (j : Nat) : x - BitVec.ofNat 16 (2 * j) - 2 = x - BitVec.ofNat 16 (2 * (j + 1)) := by
  rw [Nat.mul_succ, BitVec.ofNat_add, ← BitVec.sub_sub]
  rfl

theorem add_word_add_two (x : Word) (j : Nat) : x + BitVec.ofNat 16 (2 * j) + 2 = x + BitVec.ofNat 16 (2 * (j + 1)) := by
  rw [Nat.mul_succ, BitVec.ofNat_add, ← BitVec.add_assoc]
  rfl

/-- `t` is reached from `s` with `j` words pushed. -/
structure Pushed (e : Effects) (s : State) (j : Nat) (t : State) : Prop where
  keeps : Keeps e false s t
  sp : t.regs.sp = s.regs.sp - BitVec.ofNat 16 (2 * j)
  ss : t.segs.ss = s.segs.ss

/-- `t` is reached from `s` with `j` words popped. -/
structure Popped (e : Effects) (s : State) (j : Nat) (t : State) : Prop where
  keeps : Keeps e false s t
  sp : t.regs.sp = s.regs.sp + BitVec.ofNat 16 (2 * j)
  ss : t.segs.ss = s.segs.ss

theorem Pushed.of_keeps (h : Keeps e false s t) (hsp : t.regs.sp = s.regs.sp) (hss : t.segs.ss = s.segs.ss) : Pushed e s 0 t :=
  ⟨h, by simp [hsp], hss⟩

theorem Popped.refl (e : Effects) (s : State) : Popped e s 0 s := ⟨.refl e false s, by simp, rfl⟩

/-- A word below those pushed, if the effects allow it. -/
theorem Pushed.push16 {j k : Nat} (h : Pushed e s j t) (hj : j < k) (hsp : .sp ∈ e.regs) (hst : s.pushBytes k ⊆ e.stores)
    (v : Word) : Pushed e s (j + 1) (t.push16 v) where
  keeps := by
    refine (h.keeps.setReg16 hsp _).store (w := .word) (List.Subset.trans ?_ hst) v
    show s.accessBytes .word t.segs.ss (t.regs.sp - 2) ⊆ _
    rw [h.ss, h.sp, sub_word_sub_two]
    exact accessBytes_subset_pushBytes s hj
  sp := by
    rw [push16_regs, ← sub_word_sub_two, ← h.sp]
    rfl
  ss := by rw [push16_segs, h.ss]

theorem Pushed.setFlags {j : Nat} {f : Flags} (h : Pushed e s j t) (hf : t.flags.AgreeOff e.flags f) :
    Pushed e s j (t.setFlags f) :=
  ⟨h.keeps.setFlags hf, h.sp, h.ss⟩

theorem Pushed.foldl_push16 {k : Nat} (hsp : .sp ∈ e.regs) (hst : s.pushBytes k ⊆ e.stores) :
    ∀ (vs : List Word) {j : Nat} {t : State}, Pushed e s j t → j + vs.length ≤ k →
      Pushed e s (j + vs.length) (vs.foldl State.push16 t)
  | [], _, _, h, _ => h
  | v :: vs, j, _, h, hk => by
    rw [List.length_cons] at hk ⊢
    have ih := Pushed.foldl_push16 hsp hst vs (h.push16 (by omega) hsp hst v) (by omega)
    rwa [Nat.add_right_comm, Nat.add_assoc] at ih

/-- Words pushed one after another from the state itself. -/
theorem pushes_keeps (vs : List Word) (hsp : .sp ∈ e.regs) (hst : s.pushBytes vs.length ⊆ e.stores) :
    Keeps e false s (vs.foldl State.push16 s) :=
  ((Pushed.of_keeps (.refl e false s) rfl rfl).foldl_push16 hsp hst vs (by simp)).keeps

/-- A pop of the next word, if the effects allow it. -/
theorem Popped.pop16 {j k : Nat} {v : Word} (h : Popped e s j t) (hj : j < k) (hsp : .sp ∈ e.regs) (hld : s.popBytes k ⊆ e.loads)
    (hp : pop16 t = .ok (v, u)) : Popped e s (j + 1) u := by
  obtain ⟨u', hload, rfl⟩ := pop16_ok hp
  have hk : Keeps e false s u' := by
    refine h.keeps.load (List.Subset.trans ?_ hld) hload
    rw [h.ss, h.sp]
    exact accessBytes_subset_popBytes s hj
  obtain ⟨a, l, n, rfl⟩ := load_ok hload
  refine ⟨hk.setReg16 hsp _, ?_, h.ss⟩
  rw [← add_word_add_two, ← h.sp]
  rfl

/-- A register that is not SP takes a popped word. -/
theorem Popped.setReg16 {j : Nat} {r : RegNum} (h : Popped e s j t) (hr : r ∈ e.regs) (hne : r ≠ .sp) (v : Word) :
    Popped e s j (t.setReg16 r v) where
  keeps := h.keeps.setReg16 hr v
  sp := (Regs.get_set_other t.regs v hne.symm : (t.regs.set r v).get .sp = t.regs.get .sp).trans h.sp
  ss := h.ss

/-! ### Interrupts -/

/-- The effects allow the interrupt sequence of type `n` (60_exceptions.md R710). -/
structure Effects.Interrupts (e : Effects) (s : State) (n : Byte) : Prop where
  sp : .sp ∈ e.regs
  cs : .cs ∈ e.segs
  tf : e.flags.getLsbD 8 = true
  ifl : e.flags.getLsbD 9 = true
  vector : s.vectorBytes n ⊆ e.loads
  frame : s.pushBytes 3 ⊆ e.stores
  hidden : e.hidden = true

/-- The sequence depends on the parameters, on SP and on SS alone. -/
theorem Effects.Interrupts.of_same {n : Byte} (h : e.Interrupts s n) (hcfg : t.cfg = s.cfg) (hsp : t.regs.sp = s.regs.sp)
    (hss : t.segs.ss = s.segs.ss) : e.Interrupts t n :=
  { h with
    vector := by simpa only [State.vectorBytes, accessBytes_of_cfg hcfg] using h.vector
    frame := by simpa only [State.pushBytes, accessBytes_of_cfg hcfg, hsp, hss] using h.frame }

theorem Flags.AgreeOff.clear {f : Flags} (htf : m.getLsbD 8 = true) (hif : m.getLsbD 9 = true) :
    f.AgreeOff m { f with ifl := false, tf := false } :=
  { Flags.AgreeOff.refl m f with tf := by simp [htf], ifl := by simp [hif] }

theorem interrupt_keeps {n : Byte} {ret : Word} (he : e.Interrupts s n) (h : interrupt n ret s = .ok ((), t)) :
    Keeps e true s t := by
  obtain ⟨ip, cs, r, v, hip, hcs, rfl⟩ := interrupt_ok h
  have hvec := List.append_subset.1 he.vector
  have hread := ((Keeps.refl e false s).load hvec.1 hip).load hvec.2 hcs
  obtain ⟨a, l, d, rfl⟩ := load_ok hip
  obtain ⟨a', l', d', rfl⟩ := load_ok hcs
  have hfl := (Pushed.of_keeps hread rfl rfl).push16 (by decide : 0 < 3) he.sp he.frame
    (((s.setAnswers a').setEvents l').setDraws d').flagsWord
  have hclear := hfl.setFlags (f := { s.flags with ifl := false, tf := false }) (by simpa using .clear he.tf he.ifl)
  have hframe := (hclear.push16 (by decide) he.sp he.frame s.segs.cs).push16 (by decide) he.sp he.frame ret
  exact ((hframe.keeps.jumpFar he.cs cs ip).setHalted he.hidden false).setWaiting he.hidden false

/-- The effects of an instruction that is an interrupt and no more. -/
abbrev interruptEffects (s : State) (n : Byte) : Effects :=
  { regs := [.sp], segs := [.cs], flags := 0x0300, loads := s.vectorBytes n, stores := s.pushBytes 3, hidden := true }

theorem interruptEffects_interrupts (s : State) (n : Byte) : (interruptEffects s n).Interrupts s n :=
  ⟨List.mem_singleton_self _, List.mem_singleton_self _, (by decide : (0x0300 : Word).getLsbD 8 = true),
    (by decide : (0x0300 : Word).getLsbD 9 = true), List.Subset.refl _, List.Subset.refl _, rfl⟩

end

end Sys2Proof.Machine

/-! ## The frame of transfers, stack and string instructions -/

namespace Sys2Proof.Machine

section
variable {e : Effects} {tr : Bool} {s t u : State} {m : Word} {d : Bool}

/-! ### Instructions that may take an interrupt -/

/-- The effects of DIV and IDIV, type 0 among them. -/
abbrev divideEffects (s : State) (w : Width) (rm : RM) : Effects :=
  { regs := wideRegs w ++ [.sp], segs := [.cs], flags := 0x0BD5, loads := s.locBytes w (s.locate rm) ++ s.vectorBytes 0,
    stores := s.pushBytes 3, hidden := true, draws := true }

theorem divideEffects_interrupts (s : State) (w : Width) (rm : RM) : (divideEffects s w rm).Interrupts s 0 :=
  ⟨List.mem_append_right _ (List.mem_singleton_self _), List.mem_singleton_self _, (by decide : (0x0BD5 : Word).getLsbD 8 = true),
    (by decide : (0x0BD5 : Word).getLsbD 9 = true), List.subset_append_right _ _, List.Subset.refl _, rfl⟩

theorem Flags.statusDrawn_agree (f : Flags) (u : Word) : f.AgreeOff 0x0BD5 (f.statusDrawn u) where
  cf := nofun
  pf := nofun
  af := nofun
  zf := nofun
  sf := nofun
  tf _ := rfl
  ifl _ := rfl
  df _ := rfl
  ofl := nofun

theorem divideOp_keeps {res : (w : Width) → BitVec (2 * w.bits) → BitVec w.bits → Option (BitVec w.bits × BitVec w.bits)}
    {w : Width} {rm : RM} (h : divideOp res w rm s = .ok ((), t)) : Keeps (divideEffects s w rm) true s t := by
  obtain ⟨x, s1, hread, h⟩ := Op.bind_ok h
  obtain ⟨v, s2, hdraw, h⟩ := Op.bind_ok (Op.get_bind_ok h)
  cases hdraw
  obtain ⟨_, s3, hflags, h⟩ := Op.bind_ok h
  cases hflags
  have hk : Keeps (divideEffects s w rm) true s (s1.drew.setFlags (s1.drew.flags.statusDrawn s1.drawn)) :=
    ((readRM_keeps (List.subset_append_left _ _) hread).drew rfl).setFlags (Flags.statusDrawn_agree ..)
  cases hres : res w (s1.dividend w) x with
  | some p =>
    rw [hres] at h
    cases h
    exact hk.setQuotient (List.mem_append_left _ (mem_wideRegs_ax w)) (fun hw => List.mem_append_left _ (mem_wideRegs_dx hw)) _ _
  | none =>
    rw [hres] at h
    obtain ⟨a, l, n, rfl⟩ := readLoc_ok (Op.get_bind_ok hread)
    exact hk.trans (interrupt_keeps ((divideEffects_interrupts s w rm).of_same rfl rfl rfl) (Op.get_bind_ok h))

theorem execInto_keeps (h : execInto s = .next t) : Keeps (interruptEffects s 4) true s t := by
  have h := runOp_next.1 h
  split at h
  · exact interrupt_keeps (interruptEffects_interrupts s 4) h
  · cases h
    exact .refl _ true s

/-- The effects of BOUND, type 5 among them. -/
abbrev boundEffects (s : State) (m : MemEA) : Effects :=
  { interruptEffects s 5 with loads := s.pairBytes m ++ s.vectorBytes 5 }

theorem boundEffects_interrupts (s : State) (m : MemEA) : (boundEffects s m).Interrupts s 5 :=
  { interruptEffects_interrupts s 5 with vector := List.subset_append_right _ _ }

/-- A pair of reads changes at most the environment's fields. -/
theorem readPair_ok {m : MemEA} {p : Word × Word} (h : readPair m s = .ok (p, t)) :
    ∃ a l n, t = ((s.setAnswers a).setEvents l).setDraws n := by
  obtain ⟨lo, s1, hlo, h⟩ := Op.bind_ok (Op.get_bind_ok h)
  obtain ⟨hi, s2, hhi, h⟩ := Op.bind_ok h
  cases h
  obtain ⟨a, l, n, rfl⟩ := load_ok hlo
  obtain ⟨a', l', n', rfl⟩ := load_ok hhi
  exact ⟨a', l', n', rfl⟩

theorem execBound_keeps {r : RegNum} {m : MemEA} (h : execBound r m s = .next t) : Keeps (boundEffects s m) true s t := by
  obtain ⟨⟨lo, hi⟩, s1, hread, h⟩ := Op.bind_ok (runOp_next.1 h)
  have hk : Keeps (boundEffects s m) true s s1 := readPair_keeps (List.subset_append_left _ _) hread
  dsimp only at h
  split at h
  · obtain ⟨a, l, n, rfl⟩ := readPair_ok hread
    exact hk.trans (interrupt_keeps ((boundEffects_interrupts s m).of_same rfl rfl rfl) h)
  · cases h
    exact hk

/-! ### Jumps, calls and returns -/

theorem jumpShortIf_keeps (c : Bool) (b : Byte) (h : Keeps e false s t) (h' : Keeps e true s t) :
    Keeps e true s (t.jumpShortIf c b) := by
  cases c
  · exact h'
  · exact h.jump _

theorem loopIf_keeps (s : State) (c : Bool) (b : Byte) : Keeps { regs := [.cx] } true s (s.loopIf c b) :=
  jumpShortIf_keeps _ b ((Keeps.refl _ false s).setReg16 (List.mem_singleton_self _) _)
    ((Keeps.refl _ true s).setReg16 (List.mem_singleton_self _) _)

/-- The effects of the near calls and of what else pushes one word, with `x` read before. -/
abbrev pushEffects (s : State) (x : List Nat) (k : Nat) : Effects := { regs := [.sp], loads := x, stores := s.pushBytes k }

theorem push16_keeps (s : State) (v : Word) : Keeps (pushEffects s [] 1) false s (s.push16 v) :=
  pushes_keeps [v] (List.mem_singleton_self _) (List.Subset.refl _)

theorem readRM_push16_keeps {rm : RM} {v x : Word} (hread : readRM .word rm s = .ok (v, t)) :
    Keeps (pushEffects s (s.locBytes .word (s.locate rm)) 1) false s (t.push16 x) := by
  have hk : Keeps (pushEffects s (s.locBytes .word (s.locate rm)) 1) false s t := readRM_keeps (List.Subset.refl _) hread
  obtain ⟨a, l, n, rfl⟩ := readLoc_ok (Op.get_bind_ok hread)
  exact ((Pushed.of_keeps hk rfl rfl).push16 (by decide) (List.mem_singleton_self _) (List.Subset.refl _) x).keeps

theorem callFar_keeps (s : State) (seg off : Word) :
    Keeps { pushEffects s [] 2 with segs := [.cs] } true s (s.callFar seg off) :=
  (pushes_keeps [s.segs.cs, s.ip] (List.mem_singleton_self _) (List.Subset.refl _)).jumpFar (List.mem_singleton_self _) seg off

theorem execCallRm_keeps {rm : RM} (h : execCallRm rm s = .next t) :
    Keeps (pushEffects s (s.locBytes .word (s.locate rm)) 1) true s t := by
  obtain ⟨v, s1, hread, h⟩ := Op.bind_ok (runOp_next.1 h)
  cases h
  exact (readRM_push16_keeps hread).jump v

theorem execCallFarMem_keeps {m : MemEA} (h : execCallFarMem m s = .next t) :
    Keeps { pushEffects s (s.pairBytes m) 2 with segs := [.cs] } true s t := by
  obtain ⟨⟨off, seg⟩, s1, hread, h⟩ := Op.bind_ok (runOp_next.1 h)
  cases h
  have hk : Keeps { pushEffects s (s.pairBytes m) 2 with segs := [.cs] } false s s1 := readPair_keeps (List.Subset.refl _) hread
  obtain ⟨a, l, n, rfl⟩ := readPair_ok hread
  have hpush := (Pushed.of_keeps hk rfl rfl).foldl_push16 (k := 2) (List.mem_singleton_self _) (List.Subset.refl _) [s.segs.cs, s.ip]
    (Nat.le_refl _)
  exact hpush.keeps.jumpFar (List.mem_singleton_self _) seg off

theorem execJmpRm_keeps {rm : RM} (h : execJmpRm rm s = .next t) :
    Keeps { loads := s.locBytes .word (s.locate rm) } true s t := by
  obtain ⟨v, s1, hread, h⟩ := Op.bind_ok (runOp_next.1 h)
  cases h
  exact (readRM_keeps (List.Subset.refl _) hread).jump v

theorem execJmpFarMem_keeps {m : MemEA} (h : execJmpFarMem m s = .next t) :
    Keeps { segs := [.cs], loads := s.pairBytes m } true s t := by
  obtain ⟨⟨off, seg⟩, s1, hread, h⟩ := Op.bind_ok (runOp_next.1 h)
  cases h
  exact (readPair_keeps (List.Subset.refl _) hread).jumpFar (List.mem_singleton_self _) seg off

/-- The effects of what pops `k` words. -/
abbrev popEffects (s : State) (k : Nat) : Effects := { regs := [.sp], loads := s.popBytes k }

theorem returnNear_keeps {n : Word} (h : returnNear n s = .ok ((), t)) : Keeps (popEffects s 1) true s t := by
  obtain ⟨ip, s1, hpop, h⟩ := Op.bind_ok h
  cases h
  have hk := (Popped.refl (popEffects s 1) s).pop16 Nat.one_pos (List.mem_singleton_self _) (List.Subset.refl _) hpop
  exact (hk.keeps.jump ip).setReg16 (List.mem_singleton_self _) _

theorem returnFar_keeps {n : Word} (h : returnFar n s = .ok ((), t)) :
    Keeps { popEffects s 2 with segs := [.cs] } true s t := by
  obtain ⟨ip, s1, hip, h⟩ := Op.bind_ok h
  obtain ⟨cs, s2, hcs, h⟩ := Op.bind_ok h
  cases h
  have h1 := (Popped.refl { popEffects s 2 with segs := [.cs] } s).pop16 (by decide : 0 < 2) (List.mem_singleton_self _)
    (List.Subset.refl _) hip
  have h2 := h1.pop16 (by decide) (List.mem_singleton_self _) (List.Subset.refl _) hcs
  exact (h2.keeps.jumpFar (List.mem_singleton_self _) cs ip).setReg16 (List.mem_singleton_self _) _

/-- A FLAGS word popped may give every named flag (10_state.md R44). -/
theorem Flags.AgreeOff.any (f g : Flags) : f.AgreeOff 0x0FD5 g :=
  ⟨nofun, nofun, nofun, nofun, nofun, nofun, nofun, nofun, nofun⟩

theorem interruptReturn_keeps (h : interruptReturn s = .ok ((), t)) :
    Keeps { popEffects s 3 with segs := [.cs], flags := 0x0FD5 } true s t := by
  obtain ⟨ip, cs, fl, s1, s2, s3, hip, hcs, hfl, rfl⟩ := interruptReturn_ok h
  have h1 := (Popped.refl { popEffects s 3 with segs := [.cs], flags := 0x0FD5 } s).pop16 (by decide : 0 < 3)
    (List.mem_singleton_self _) (List.Subset.refl _) hip
  have h2 := h1.pop16 (by decide) (List.mem_singleton_self _) (List.Subset.refl _) hcs
  have h3 := h2.pop16 (by decide) (List.mem_singleton_self _) (List.Subset.refl _) hfl
  exact (h3.keeps.jumpFar (List.mem_singleton_self _) cs ip).setFlags (.any _ _)

/-! ### ENTER and LEAVE -/

/-- The effects of ENTER with nesting level `level` (44_control_transfer.md R415). -/
abbrev enterEffects (s : State) (level : Nat) : Effects :=
  { regs := [.sp, .bp], loads := s.frameBytes level, stores := s.pushBytes (level + 1) }

/-- The copies: with `j` of them done, `j + 1` words are pushed and BP is `j` words lower. -/
theorem enterCopies_pushed {level : Nat} :
    ∀ (n : Nat) {j : Nat} {t u : State}, j + n ≤ level - 1 → Pushed (enterEffects s level) s (j + 1) t →
      t.regs.bp = s.regs.bp - BitVec.ofNat 16 (2 * j) → enterCopies n t = .ok ((), u) →
      Pushed (enterEffects s level) s (j + n + 1) u
  | 0, _, _, _, _, hp, _, h => by
    cases h
    exact hp
  | n + 1, j, t, u, hn, hp, hbp, h => by
    obtain ⟨_, t1, hdec, h⟩ := Op.bind_ok h
    cases hdec
    obtain ⟨v, t2, hload, h⟩ := Op.bind_ok (Op.get_bind_ok h)
    obtain ⟨_, t3, hpush, h⟩ := Op.bind_ok h
    cases hpush
    have hbp' : t.regs.bp - 2 = s.regs.bp - BitVec.ofNat 16 (2 * (j + 1)) := by rw [hbp, sub_word_sub_two]
    have hk : Keeps (enterEffects s level) false s t2 := by
      refine (hp.keeps.setReg16 (r := .bp) (by simp) (t.regs.bp - 2)).load ?_ hload
      show s.accessBytes .word t.segs.ss (t.regs.bp - 2) ⊆ s.frameBytes level
      rw [hp.ss, hbp']
      exact accessBytes_subset_frameBytes s (by omega)
    obtain ⟨a, l, d, rfl⟩ := load_ok hload
    have hp2 : Pushed (enterEffects s level) s (j + 1) _ := ⟨hk, hp.sp, hp.ss⟩
    have hp3 := hp2.push16 (k := level + 1) (by omega) (by simp) (List.Subset.refl _) v
    have ih := enterCopies_pushed n (by omega) hp3 (by rw [push16_regs]; exact hbp') h
    rwa [Nat.add_right_comm j 1 n] at ih

theorem enterOp_keeps {size : Word} {level : Nat} (h : enterOp size level s = .ok ((), t)) :
    Keeps (enterEffects s level) false s t := by
  obtain ⟨_, s1, hpush, h⟩ := Op.bind_ok h
  cases hpush
  have hp := (Pushed.of_keeps (.refl (enterEffects s level) false s) rfl rfl).push16 (k := level + 1) (by omega) (by simp)
    (List.Subset.refl _) s.regs.bp
  have hend {x : State} (hx : Keeps (enterEffects s level) false s x) {y z : Word} :
      Keeps (enterEffects s level) false s ((x.setReg16 .bp y).setReg16 .sp z) :=
    (hx.setReg16 (by simp) y).setReg16 (by simp) z
  have h := Op.get_bind_ok h
  dsimp only at h
  split at h
  · obtain ⟨_, s2, hcopies, h⟩ := Op.bind_ok h
    cases h
    have hp2 := enterCopies_pushed (level - 1) (by omega) hp (by simp [Regs.set]) hcopies
    exact hend (hp2.push16 (k := level + 1) (by omega) (by simp) (List.Subset.refl _) _).keeps
  · cases h
    exact hend hp.keeps

theorem execLeave_keeps (h : execLeave s = .next t) :
    Keeps { regs := [.sp, .bp], loads := s.accessBytes .word s.segs.ss s.regs.bp } false s t := by
  obtain ⟨_, s1, hsp, h⟩ := Op.bind_ok (runOp_next.1 h)
  cases hsp
  obtain ⟨v, s2, hpop, h⟩ := Op.bind_ok h
  cases h
  obtain ⟨s3, hload, rfl⟩ := pop16_ok hpop
  exact ((((Keeps.refl _ false s).setReg16 (by simp) s.regs.bp).load (List.Subset.refl _) hload).setReg16 (by simp) _).setReg16
    (by simp) v

end

end Sys2Proof.Machine

/-! ## The frame of moves and string instructions -/

namespace Sys2Proof.Machine

section
variable {e : Effects} {tr : Bool} {s t u : State}

/-! ### Moves -/

theorem writeRM_keeps (s : State) (w : Width) (rm : RM) (v : BitVec w.bits) :
    Keeps { regs := rmRegs w rm, stores := s.locBytes w (s.locate rm) } false s (s.writeLoc w (s.locate rm) v) :=
  (Keeps.refl _ false s).writeLoc (fun _ => homeReg_mem_rmRegs) (List.Subset.refl _) v

theorem execMovRmImm_keeps {rm : RM} {imm : Imm} (h : execMovRmImm rm imm s = .next t) :
    Keeps { regs := rmRegs (immWidth imm) rm, stores := s.locBytes (immWidth imm) (s.locate rm) } false s t := by
  cases imm <;> cases h <;> exact writeRM_keeps ..

theorem execMovRegImm_keeps {r : RegNum} {imm : Imm} (h : execMovRegImm r imm s = .next t) :
    Keeps { regs := [homeReg (immWidth imm) r] } false s t := by
  cases imm with
  | ib b =>
    cases h
    exact (Keeps.refl _ false s).setReg8 (List.mem_singleton_self _) b
  | iw v =>
    cases h
    exact (Keeps.refl _ false s).setReg16 (List.mem_singleton_self _) v

theorem execMovRegRm_keeps {w : Width} {r : RegNum} {rm : RM} (h : execMovRegRm w r rm s = .next t) :
    Keeps { regs := [homeReg w r], loads := s.locBytes w (s.locate rm) } false s t := by
  obtain ⟨v, s1, hread, h⟩ := Op.bind_ok (runOp_next.1 h)
  cases h
  exact (readRM_keeps (List.Subset.refl _) hread).setReg (List.mem_singleton_self _) v

/-- AL and AX lie in AX. -/
theorem Keeps.setAcc (h : Keeps e tr s t) (hax : .ax ∈ e.regs) {w : Width} (v : BitVec w.bits) :
    Keeps e tr s (t.setReg w acc v) :=
  h.setReg (by cases w <;> exact hax) v

theorem execMovAccMem_keeps {w : Width} {off : Word} (h : execMovAccMem w off s = .next t) :
    Keeps { regs := [.ax], loads := s.accessBytes w (s.segOr .ds) off } false s t := by
  obtain ⟨v, s1, hload, h⟩ := Op.bind_ok (runOp_next.1 h)
  cases h
  exact ((Keeps.refl _ false s).load (List.Subset.refl _) hload).setAcc (List.mem_singleton_self _) v

theorem execXlat_keeps (h : execXlat s = .next t) :
    Keeps { regs := [.ax], loads := s.accessBytes .byte (s.segOr .ds) (s.regs.bx + zext16 (s.reg8 .al)) } false s t := by
  obtain ⟨v, s1, hload, h⟩ := Op.bind_ok (runOp_next.1 h)
  cases h
  exact ((Keeps.refl _ false s).load (List.Subset.refl _) hload).setReg8 (List.mem_singleton_self _) v

theorem Keeps.shadow (h : Keeps e tr s t) (he : e.hidden = true) : Keeps e tr s t.shadow := by
  unfold State.shadow
  split
  · exact h.setIntInhibit he true
  · exact h

theorem execMovSregRm_keeps {n : SReg} {rm : RM} (h : execMovSregRm n rm s = .next t) :
    Keeps { segs := [n], loads := s.locBytes .word (s.locate rm), hidden := true } false s t := by
  obtain ⟨v, s1, hread, h⟩ := Op.bind_ok (runOp_next.1 h)
  cases h
  exact ((readRM_keeps (List.Subset.refl _) hread).setSreg (List.mem_singleton_self _) v).shadow rfl

theorem execXchgRmReg_keeps {w : Width} {rm : RM} {r : RegNum} (h : execXchgRmReg w rm r s = .next t) :
    Keeps { rmEffects s w rm 0 false with regs := homeReg w r :: rmRegs w rm } false s t := by
  obtain ⟨v, s1, hread, h⟩ := Op.bind_ok (Op.get_bind_ok (runOp_next.1 h))
  cases h
  have hk := (Keeps.refl { rmEffects s w rm 0 false with regs := homeReg w r :: rmRegs w rm } false s).readLoc
    (List.Subset.refl _) hread
  exact (hk.writeLoc (fun _ hl => List.mem_cons_of_mem _ (homeReg_mem_rmRegs hl)) (List.Subset.refl _) _).setReg
    List.mem_cons_self v

theorem loadPointer_keeps {n : SReg} {r : RegNum} {m : MemEA} (h : loadPointer n r m s = .ok ((), t)) :
    Keeps { regs := [r], segs := [n], loads := s.pairBytes m } false s t := by
  obtain ⟨⟨off, seg⟩, s1, hread, h⟩ := Op.bind_ok h
  cases h
  exact ((readPair_keeps (List.Subset.refl _) hread).setReg16 (List.mem_singleton_self _) off).setSreg
    (List.mem_singleton_self _) seg

/-- The effects of IN. -/
abbrev inEffects : Effects := { regs := [.ax], ports := true, draws := true }

theorem inPort_keeps {w : Width} {port : Word} (h : inPort w port s = .ok ((), t)) : Keeps inEffects false s t := by
  obtain ⟨v, s1, hread, h⟩ := Op.bind_ok h
  cases h
  exact ((Keeps.refl inEffects false s).ioRead rfl rfl hread).setAcc (List.mem_singleton_self _) v

theorem execSahf_keeps (h : execSahf s = .next t) : Keeps { flags := 0x00D5 } false s t := by
  cases h
  exact (Keeps.refl _ false s).setFlags
    { Flags.AgreeOff.refl 0x00D5 s.flags with cf := nofun, pf := nofun, af := nofun, zf := nofun, sf := nofun }

theorem escOp_keeps {rm : RM} (h : escOp rm s = .ok ((), t)) : Keeps { loads := s.locBytes .word (s.locate rm) } false s t := by
  have h := Op.get_bind_ok h
  cases hl : s.locate rm with
  | reg r =>
    rw [hl] at h
    cases h
    exact .refl _ false s
  | mem seg off =>
    rw [hl] at h
    obtain ⟨v, s1, hload, h⟩ := Op.bind_ok h
    cases h
    exact (Keeps.refl _ false s).load (List.Subset.refl _) hload

theorem execEsc_keeps (x l : BitVec 3) {rm : RM} (h : execEsc x l rm s = .next t) :
    Keeps { loads := s.locBytes .word (s.locate rm) } false s t := by
  unfold execEsc at h
  split at h
  · cases h
  · exact escOp_keeps (runOp_next.1 h)

/-! ### Pushes and pops -/

theorem pushReg_keeps (s : State) (r : RegNum) : Keeps (pushEffects s [] 1) false s (s.pushReg r) := by
  unfold State.pushReg
  split <;> exact push16_keeps s _

theorem execPushRm_keeps {rm : RM} (h : execPushRm rm s = .next t) :
    Keeps (pushEffects s (s.locBytes .word (s.locate rm)) 1) false s t := by
  cases rm with
  | reg r =>
    cases h
    exact pushReg_keeps s r
  | mem m =>
    obtain ⟨v, s1, hread, h⟩ := Op.bind_ok (runOp_next.1 h)
    cases h
    exact readRM_push16_keeps hread

/-- The first pop of an instruction that may write SP. -/
theorem pop16_keeps {k : Nat} {v : Word} (hk : 0 < k) (hsp : .sp ∈ e.regs) (hld : s.popBytes k ⊆ e.loads)
    (h : pop16 s = .ok (v, t)) : Keeps e false s t :=
  ((Popped.refl e s).pop16 hk hsp hld h).keeps

theorem execPopReg_keeps {r : RegNum} (h : execPopReg r s = .next t) :
    Keeps { popEffects s 1 with regs := [r, .sp] } false s t := by
  obtain ⟨v, s1, hpop, h⟩ := Op.bind_ok (runOp_next.1 h)
  cases h
  exact (pop16_keeps Nat.one_pos (by simp) (List.Subset.refl _) hpop).setReg16 (by simp) v

theorem execPopRm_keeps {rm : RM} (h : execPopRm rm s = .next t) :
    Keeps { popEffects s 1 with regs := .sp :: rmRegs .word rm, stores := s.locBytes .word (s.locate rm) } false s t := by
  obtain ⟨v, s1, hpop, h⟩ := Op.bind_ok (Op.get_bind_ok (runOp_next.1 h))
  cases h
  exact (pop16_keeps Nat.one_pos (by simp) (List.Subset.refl _) hpop).writeLoc (w := .word)
    (fun _ hl => List.mem_cons_of_mem _ (homeReg_mem_rmRegs hl)) (List.Subset.refl _) v

theorem popSreg_keeps {n : SReg} (h : popSreg n s = .ok ((), t)) :
    Keeps { popEffects s 1 with segs := [n], hidden := true } false s t := by
  obtain ⟨v, s1, hpop, h⟩ := Op.bind_ok h
  cases h
  exact ((pop16_keeps Nat.one_pos (by simp) (List.Subset.refl _) hpop).setSreg (List.mem_singleton_self _) v).shadow rfl

theorem execPopf_keeps (h : execPopf s = .next t) : Keeps { popEffects s 1 with flags := 0x0FD5 } false s t := by
  obtain ⟨v, s1, hpop, h⟩ := Op.bind_ok (runOp_next.1 h)
  cases h
  exact (pop16_keeps Nat.one_pos (by simp) (List.Subset.refl _) hpop).setFlags (.any _ _)

/-- The pops of POPA, into registers that the effects name, SP not among them. -/
theorem popAll_popped {k : Nat} (hsp : .sp ∈ e.regs) (hld : s.popBytes k ⊆ e.loads) :
    ∀ (rs : List (Option RegNum)) {j : Nat} {t u : State}, (∀ r, some r ∈ rs → r ∈ e.regs ∧ r ≠ .sp) → j + rs.length ≤ k →
      Popped e s j t → popAll rs t = .ok ((), u) → Popped e s (j + rs.length) u
  | [], _, _, _, _, _, hp, h => by
    cases h
    exact hp
  | r :: rs, j, t, u, hr, hk, hp, h => by
    rw [List.length_cons] at hk ⊢
    obtain ⟨_, t1, hinto, h⟩ := Op.bind_ok h
    have hp1 : Popped e s (j + 1) t1 := by
      cases r with
      | none =>
        obtain ⟨v, t2, hpop, hinto⟩ := Op.bind_ok hinto
        cases hinto
        exact hp.pop16 (by omega) hsp hld hpop
      | some r =>
        obtain ⟨v, t2, hpop, hinto⟩ := Op.bind_ok hinto
        cases hinto
        obtain ⟨hmem, hne⟩ := hr r List.mem_cons_self
        exact (hp.pop16 (by omega) hsp hld hpop).setReg16 hmem hne v
    have ih := popAll_popped hsp hld rs (fun r hm => hr r (List.mem_cons_of_mem _ hm)) (by omega) hp1 h
    rwa [Nat.add_right_comm, Nat.add_assoc] at ih

theorem execPopa_keeps (h : execPopa s = .next t) :
    Keeps { popEffects s 8 with regs := [.ax, .cx, .dx, .bx, .sp, .bp, .si, .di] } false s t :=
  (popAll_popped (k := 8) (by simp) (List.Subset.refl _) popaOrder (by simp [popaOrder]) (Nat.le_refl _) (.refl _ s)
    (runOp_next.1 h)).keeps

/-! ### Strings -/

/-- One element or one step of a repetition (43_string.md R345), where the effects allow the element, CX and the repetition. -/
theorem stringInstr_keeps {i : Instr} {c : Bool} {element : Op Unit} (hcx : .cx ∈ e.regs) (he : e.hidden = true)
    (hel : ∀ u, element s = .ok ((), u) → Keeps e false s u) (h : stringInstr i c element s = .ok ((), t)) :
    Keeps e false s t := by
  have h := Op.get_bind_ok h
  cases hrep : s.pfx.rep with
  | none =>
    rw [hrep] at h
    exact hel t h
  | some k =>
    rw [hrep] at h
    dsimp only at h
    split at h
    · cases h
    · have h := Op.get_bind_ok h
      split at h
      · cases h
        exact (Keeps.refl e false s).setRepeating he none
      · obtain ⟨_, u, hrun, h⟩ := Op.bind_ok h
        cases h
        exact ((hel u hrun).setReg16 hcx _).setRepeating he _

theorem readSource_keeps {w : Width} {v : BitVec w.bits} (hx : s.accessBytes w (s.segOr .ds) s.regs.si ⊆ e.loads)
    (h : readSource w s = .ok (v, t)) : Keeps e tr s t :=
  (Keeps.refl e tr s).load hx (Op.get_bind_ok h)

theorem readDestination_keeps {w : Width} {v : BitVec w.bits} (hx : s.accessBytes w s.segs.es s.regs.di ⊆ e.loads)
    (h : readDestination w s = .ok (v, t)) : Keeps e tr s t :=
  (Keeps.refl e tr s).load hx (Op.get_bind_ok h)

/-- The effects of MOVS (43_string.md R331), repeated or not. -/
abbrev movsEffects (s : State) (w : Width) : Effects :=
  { regs := [.si, .di, .cx], loads := s.accessBytes w (s.segOr .ds) s.regs.si, stores := s.accessBytes w s.segs.es s.regs.di,
    hidden := true }

/-- The effects of CMPS (43_string.md R332), repeated or not. -/
abbrev cmpsEffects (s : State) (w : Width) : Effects :=
  { regs := [.si, .di, .cx], flags := 0x08D5,
    loads := s.accessBytes w (s.segOr .ds) s.regs.si ++ s.accessBytes w s.segs.es s.regs.di, hidden := true }

/-- The effects of SCAS (43_string.md R333), repeated or not. -/
abbrev scasEffects (s : State) (w : Width) : Effects :=
  { regs := [.di, .cx], flags := 0x08D5, loads := s.accessBytes w s.segs.es s.regs.di, hidden := true }

/-- The effects of LODS (43_string.md R334), repeated or not. -/
abbrev lodsEffects (s : State) (w : Width) : Effects :=
  { regs := [.ax, .si, .cx], loads := s.accessBytes w (s.segOr .ds) s.regs.si, hidden := true }

/-- The effects of STOS (43_string.md R335), repeated or not. -/
abbrev stosEffects (s : State) (w : Width) : Effects :=
  { regs := [.di, .cx], stores := s.accessBytes w s.segs.es s.regs.di, hidden := true }

/-- The effects of INS (43_string.md R340), repeated or not. -/
abbrev insEffects (s : State) (w : Width) : Effects := { stosEffects s w with ports := true, draws := true }

/-- The effects of OUTS (43_string.md R341), repeated or not. -/
abbrev outsEffects (s : State) (w : Width) : Effects :=
  { regs := [.si, .cx], loads := s.accessBytes w (s.segOr .ds) s.regs.si, hidden := true, ports := true }

theorem movsElement_keeps {w : Width} (h : movsElement w s = .ok ((), t)) : Keeps (movsEffects s w) false s t := by
  obtain ⟨v, s1, hread, h⟩ := Op.bind_ok h
  cases h
  have hk : Keeps (movsEffects s w) false s s1 := readSource_keeps (List.Subset.refl _) hread
  obtain ⟨a, l, n, rfl⟩ := load_ok (Op.get_bind_ok hread)
  exact ((hk.store (List.Subset.refl _) v).setReg16 (by simp) _).setReg16 (by simp) _

theorem cmpsElement_keeps {w : Width} (h : cmpsElement w s = .ok ((), t)) : Keeps (cmpsEffects s w) false s t := by
  obtain ⟨a, s1, hsrc, h⟩ := Op.bind_ok h
  obtain ⟨b, s2, hdst, h⟩ := Op.bind_ok h
  obtain ⟨v, s3, hsub, h⟩ := Op.bind_ok h
  cases h
  have hk : Keeps (cmpsEffects s w) false s s1 := readSource_keeps (List.subset_append_left _ _) hsrc
  obtain ⟨x, l, n, rfl⟩ := load_ok (Op.get_bind_ok hsrc)
  have hk2 := hk.load (List.subset_append_right _ _) (Op.get_bind_ok hdst)
  exact ((hk2.trans (subOp_flags w a b rfl rfl hsub)).setReg16 (by simp) _).setReg16 (by simp) _

theorem scasElement_keeps {w : Width} (h : scasElement w s = .ok ((), t)) : Keeps (scasEffects s w) false s t := by
  obtain ⟨b, s1, hdst, h⟩ := Op.bind_ok h
  obtain ⟨v, s2, hsub, h⟩ := Op.bind_ok (Op.get_bind_ok h)
  cases h
  exact ((readDestination_keeps (List.Subset.refl _) hdst).trans (subOp_flags w _ b rfl rfl hsub)).setReg16 (by simp) _

theorem lodsElement_keeps {w : Width} (h : lodsElement w s = .ok ((), t)) : Keeps (lodsEffects s w) false s t := by
  obtain ⟨v, s1, hread, h⟩ := Op.bind_ok h
  cases h
  exact ((readSource_keeps (List.Subset.refl _) hread).setAcc (by simp) v).setReg16 (by simp) _

theorem stosElement_keeps {w : Width} (h : stosElement w s = .ok ((), t)) : Keeps (stosEffects s w) false s t := by
  cases h
  exact ((Keeps.refl (stosEffects s w) false s).store (List.Subset.refl _) _).setReg16 (by simp) _

theorem insElement_keeps {w : Width} (h : insElement w s = .ok ((), t)) : Keeps (insEffects s w) false s t := by
  obtain ⟨v, s1, hread, h⟩ := Op.bind_ok (Op.get_bind_ok h)
  cases h
  have hk := (Keeps.refl (insEffects s w) false s).ioRead rfl rfl hread
  obtain ⟨a, l, n, rfl⟩ := ioRead_ok hread
  exact (hk.store (List.Subset.refl _) v).setReg16 (by simp) _

theorem outsElement_keeps {w : Width} (h : outsElement w s = .ok ((), t)) : Keeps (outsEffects s w) false s t := by
  obtain ⟨v, s1, hread, h⟩ := Op.bind_ok h
  cases h
  exact ((readSource_keeps (List.Subset.refl _) hread).ioWrite rfl w _ v).setReg16 (by simp) _

end

end Sys2Proof.Machine

/-! ## The frame of every instruction -/

namespace Sys2Proof.Machine

/-- What the rules of files 40 to 45 let an instruction change, as the lists of the model say it. -/
def effects (s : State) (i : Instr) : Effects where
  regs := destRegs i
  segs := destSegs i
  flags := flagMask i
  loads := loadedBytes s i
  stores := storedBytes s i
  hidden := touchesHidden i
  ports := usesPort i
  draws := mayDraw i

section
variable {e : Effects} {tr : Bool} {s t u : State}

/-- A meaning that always goes on. -/
theorem next_keeps (hk : Keeps e tr s u) (h : Host.Outcome.next u = (.next t : Host.Outcome State Fault Refusal)) :
    Keeps e tr s t := by
  cases h
  exact hk

theorem execWait_keeps (h : execWait s = .next t) : Keeps { hidden := true } false s t := by
  cases h
  split
  · exact .refl _ false s
  · exact (Keeps.refl _ false s).setWaiting rfl true

theorem xchgAx_keeps (s : State) (r : RegNum) :
    Keeps { regs := [.ax, r] } false s ((s.setReg16 .ax (s.reg16 r)).setReg16 r (s.reg16 .ax)) :=
  ((Keeps.refl _ false s).setReg16 (by simp) _).setReg16 (by simp) _

theorem Flags.AgreeOff.setCf (f : Flags) (c : Bool) : f.AgreeOff 0x0001 { f with cf := c } :=
  { Flags.AgreeOff.refl 0x0001 f with cf := nofun }

theorem Flags.AgreeOff.setDf (f : Flags) (c : Bool) : f.AgreeOff 0x0400 { f with df := c } :=
  { Flags.AgreeOff.refl 0x0400 f with df := nofun }

theorem Flags.AgreeOff.setIf (f : Flags) (c : Bool) : f.AgreeOff 0x0200 { f with ifl := c } :=
  { Flags.AgreeOff.refl 0x0200 f with ifl := nofun }

/-- Every instruction keeps to its effects (10_state.md R33, R35, R38, R44, R57; 20_memory.md R87, R91, R104). The instructions of
the level LX86 answer no next state. -/
theorem exec_keeps {i : Instr} (h : exec i s = .next t) : Keeps (effects s i) (transfers i) s t := by
  cases i with
  | addRmReg => exact binRmReg_keeps addOp_flags (runOp_next.1 h)
  | addRegRm => exact binRegRm_keeps addOp_flags (runOp_next.1 h)
  | addAcc => exact binAcc_keeps addOp_flags (runOp_next.1 h)
  | addRmImm => exact binRmImm_keeps addOp_flags (runOp_next.1 h)
  | addRmImm8 => exact binRmVal_keeps addOp_flags (runOp_next.1 h)
  | orRmReg | andRmReg | xorRmReg => exact binRmReg_keeps (fun w _ _ => logicOp_flags w _) (runOp_next.1 h)
  | orRegRm | andRegRm | xorRegRm => exact binRegRm_keeps (fun w _ _ => logicOp_flags w _) (runOp_next.1 h)
  | orAcc | andAcc | xorAcc => exact binAcc_keeps (fun w _ _ => logicOp_flags w _) (runOp_next.1 h)
  | orRmImm | andRmImm | xorRmImm => exact binRmImm_keeps (fun w _ _ => logicOp_flags w _) (runOp_next.1 h)
  | adcRmReg => exact binRmReg_keeps adcOp_flags (runOp_next.1 h)
  | adcRegRm => exact binRegRm_keeps adcOp_flags (runOp_next.1 h)
  | adcAcc => exact binAcc_keeps adcOp_flags (runOp_next.1 h)
  | adcRmImm => exact binRmImm_keeps adcOp_flags (runOp_next.1 h)
  | adcRmImm8 => exact binRmVal_keeps adcOp_flags (runOp_next.1 h)
  | sbbRmReg => exact binRmReg_keeps sbbOp_flags (runOp_next.1 h)
  | sbbRegRm => exact binRegRm_keeps sbbOp_flags (runOp_next.1 h)
  | sbbAcc => exact binAcc_keeps sbbOp_flags (runOp_next.1 h)
  | sbbRmImm => exact binRmImm_keeps sbbOp_flags (runOp_next.1 h)
  | sbbRmImm8 => exact binRmVal_keeps sbbOp_flags (runOp_next.1 h)
  | andRmImm8 => exact binRmVal_keeps (fun w _ _ => logicOp_flags w _) (runOp_next.1 h)
  | subRmReg => exact binRmReg_keeps subOp_flags (runOp_next.1 h)
  | subRegRm => exact binRegRm_keeps subOp_flags (runOp_next.1 h)
  | subAcc => exact binAcc_keeps subOp_flags (runOp_next.1 h)
  | subRmImm => exact binRmImm_keeps subOp_flags (runOp_next.1 h)
  | subRmImm8 => exact binRmVal_keeps subOp_flags (runOp_next.1 h)
  | cmpRmReg => exact testRmReg_keeps subOp_flags (runOp_next.1 h)
  | cmpRegRm => exact testRegRm_keeps subOp_flags (runOp_next.1 h)
  | cmpAcc => exact testAcc_keeps subOp_flags (runOp_next.1 h)
  | cmpRmImm => exact testRmImm_keeps subOp_flags (runOp_next.1 h)
  | cmpRmImm8 => exact testRmVal_keeps subOp_flags (runOp_next.1 h)
  | pushEs | pushCs | pushSs | pushDs | pushImm | pushImm8 | pushf => exact next_keeps (push16_keeps s _) h
  | popEs | popSs | popDs => exact popSreg_keeps (runOp_next.1 h)
  | overrideEs | overrideCs | overrideSs | overrideDs | lock | repne | rep =>
    exact next_keeps ((Keeps.refl _ false s).setPfx rfl _) h
  | daa | das => exact decimalAdjust_keeps (runOp_next.1 h)
  | aaa | aas => exact asciiAdjust_keeps (runOp_next.1 h)
  | incReg => exact unary_keeps (w := .word) (rm := .reg _) incOp_flags (runOp_next.1 h)
  | decReg => exact unary_keeps (w := .word) (rm := .reg _) decOp_flags (runOp_next.1 h)
  | pushReg => exact next_keeps (pushReg_keeps s _) h
  | popReg => exact execPopReg_keeps h
  | pusha => exact next_keeps (pushes_keeps s.pushaWords (List.mem_singleton_self _) (List.Subset.refl _)) h
  | popa => exact execPopa_keeps h
  | bound => exact execBound_keeps h
  | ins w => exact stringInstr_keeps (e := insEffects s w) (by simp) rfl (fun _ => insElement_keeps) (runOp_next.1 h)
  | outs w => exact stringInstr_keeps (e := outsEffects s w) (by simp) rfl (fun _ => outsElement_keeps) (runOp_next.1 h)
  | jo | jno | jb | jnb | jz | jnz | jbe | jnbe | js | jns | jp | jnp | jl | jnl | jle | jnle | jcxz =>
    exact next_keeps (jumpShortIf_keeps _ _ (.refl _ false s) (.refl _ true s)) h
  | testRmReg => exact testRmReg_keeps (fun w _ _ => logicOp_flags w _) (runOp_next.1 h)
  | xchgRmReg => exact execXchgRmReg_keeps h
  | movRmReg | movRmSreg => exact next_keeps (writeRM_keeps s _ _ _) h
  | movRegRm => exact execMovRegRm_keeps h
  | lea | cbw | cwd => exact next_keeps ((Keeps.refl _ false s).setReg16 (List.mem_singleton_self _) _) h
  | movSregRm => exact execMovSregRm_keeps h
  | popRm => exact execPopRm_keeps h
  | nop => exact next_keeps (.refl _ false s) h
  | xchgAx => exact next_keeps (xchgAx_keeps s _) h
  | wait => exact execWait_keeps h
  | popf => exact execPopf_keeps h
  | sahf => exact execSahf_keeps h
  | lahf | setalc => exact next_keeps ((Keeps.refl _ false s).setReg8 (List.mem_singleton_self _) _) h
  | callFar => exact next_keeps (callFar_keeps s _ _) h
  | movAccMem => exact execMovAccMem_keeps h
  | movMemAcc => exact next_keeps ((Keeps.refl _ false s).store (List.Subset.refl _) _) h
  | movs w => exact stringInstr_keeps (e := movsEffects s w) (by simp) rfl (fun _ => movsElement_keeps) (runOp_next.1 h)
  | cmps w => exact stringInstr_keeps (e := cmpsEffects s w) (by simp) rfl (fun _ => cmpsElement_keeps) (runOp_next.1 h)
  | stos w => exact stringInstr_keeps (e := stosEffects s w) (by simp) rfl (fun _ => stosElement_keeps) (runOp_next.1 h)
  | lods w => exact stringInstr_keeps (e := lodsEffects s w) (by simp) rfl (fun _ => lodsElement_keeps) (runOp_next.1 h)
  | scas w => exact stringInstr_keeps (e := scasEffects s w) (by simp) rfl (fun _ => scasElement_keeps) (runOp_next.1 h)
  | testAcc => exact testAcc_keeps (fun w _ _ => logicOp_flags w _) (runOp_next.1 h)
  | movRegImm => exact execMovRegImm_keeps h
  | retImm | ret => exact returnNear_keeps (runOp_next.1 h)
  | les | lds => exact loadPointer_keeps (runOp_next.1 h)
  | movRmImm => exact execMovRmImm_keeps h
  | enter => exact enterOp_keeps (runOp_next.1 h)
  | leave => exact execLeave_keeps h
  | retfImm | retf => exact returnFar_keeps (runOp_next.1 h)
  | int3 | intN => exact interrupt_keeps (interruptEffects_interrupts s _) (runOp_next.1 h)
  | into => exact execInto_keeps h
  | iret => exact interruptReturn_keeps (runOp_next.1 h)
  | rol | ror | rcl | rcr | shl | shr | sar => exact shiftRm_keeps (runOp_next.1 h)
  | aam => exact execAam_keeps h
  | aad => exact execAad_keeps h
  | xlat => exact execXlat_keeps h
  | esc x l => exact execEsc_keeps x l h
  | loopne | loope | loop => exact next_keeps (loopIf_keeps s _ _) h
  | inImm | inDx => exact inPort_keeps (runOp_next.1 h)
  | outImm | outDx => exact next_keeps ((Keeps.refl _ false s).ioWrite rfl _ _ _) h
  | callNear => exact next_keeps ((push16_keeps s _).jump _) h
  | jmpNear | jmpShort => exact next_keeps ((Keeps.refl _ false s).jump _) h
  | jmpFar => exact next_keeps ((Keeps.refl _ false s).jumpFar (List.mem_singleton_self _) _ _) h
  | hlt => exact next_keeps ((Keeps.refl _ false s).setHalted rfl true) h
  | cmc | clc | stc => exact next_keeps ((Keeps.refl _ false s).setFlags (.setCf s.flags _)) h
  | testRmImm => exact testRmImm_keeps (fun w _ _ => logicOp_flags w _) (runOp_next.1 h)
  | notRm => exact unary_keeps notOp_flags (runOp_next.1 h)
  | neg => exact unary_keeps (fun w a => subOp_flags w 0 a) (runOp_next.1 h)
  | mul w => cases w <;> exact mulOp_keeps (runOp_next.1 h)
  | imul w => cases w <;> exact imulOp_keeps (runOp_next.1 h)
  | div w | idiv w => cases w <;> exact divideOp_keeps (runOp_next.1 h)
  | cli => exact next_keeps ((Keeps.refl _ false s).setFlags (.setIf s.flags _)) h
  | sti => exact next_keeps (((Keeps.refl _ false s).setFlags (.setIf s.flags _)).setIntInhibit rfl _) h
  | cld | std => exact next_keeps ((Keeps.refl _ false s).setFlags (.setDf s.flags _)) h
  | incRm => exact unary_keeps incOp_flags (runOp_next.1 h)
  | decRm => exact unary_keeps decOp_flags (runOp_next.1 h)
  | callRm => exact execCallRm_keeps h
  | callFarMem => exact execCallFarMem_keeps h
  | jmpRm => exact execJmpRm_keeps h
  | jmpFarMem => exact execJmpFarMem_keeps h
  | pushRm => exact execPushRm_keeps h
  | _ => cases h

/-- What no instruction writes, field by field. -/
theorem Keeps.sameInputs (h : Keeps e tr s t) : t.cfg = s.cfg ∧ t.lines = s.lines ∧ t.inputs = s.inputs ∧
    t.nmiLatched = s.nmiLatched ∧ t.start = s.start ∧ t.boundary = s.boundary := by
  simpa only [State.given, Prod.mk.injEq] using h.given

theorem Keeps.sameHidden (h : Keeps e tr s t) (he : e.hidden = false) : SameHidden s t := by
  obtain ⟨hcfg, hlines, hinputs, hnmi, hstart, hboundary⟩ := h.sameInputs
  obtain ⟨hinh, hhalt, hwait, hpfx, hrep⟩ : t.intInhibit = s.intInhibit ∧ t.halted = s.halted ∧ t.waiting = s.waiting ∧
      t.pfx = s.pfx ∧ t.repeating = s.repeating := by simpa only [State.holds, Prod.mk.injEq] using h.holds he
  exact ⟨hinh, hhalt, hwait, hpfx, hstart, hrep, hboundary, hnmi, hlines, hinputs, hcfg⟩

theorem Keeps.ahead_of_no_transfer (h : Keeps e false s t) :
    t.ip = s.ip ∧ ∃ l, t.stale = l ++ s.stale ∧ ∀ p ∈ l, p.1 ∈ e.stores := h.ahead

theorem Keeps.ahead_of_transfer (h : Keeps e true s t) : t.stale = [] ∨ (t.stale = s.stale ∧ t.ip = s.ip) := h.ahead

end

/-! ### The frames -/

/-- Settles O50: every instruction keeps to its effects, which name the registers of `destRegs` and `destSegs`. -/
theorem registersFrame : Obligations.RegistersFrame := by
  intro i s t h
  have hk := exec_keeps h
  exact ⟨hk.regs, hk.segs, fun htr => (Keeps.ahead_of_no_transfer (htr ▸ hk)).1⟩

/-- Settles O52: every instruction keeps to its effects, which name the flags of `flagMask`. -/
theorem flagsFrame : Obligations.FlagsFrame := by
  intro i s t h
  have hk := exec_keeps h
  rw [State.flagsWord, State.flagsWord, hk.cfg]
  exact hk.flags.toWord s.cfg

/-- Settles O53: every instruction keeps to its effects on hidden state, the environment and the bytes kept for the fetch. -/
theorem hiddenFrame : Obligations.HiddenFrame := by
  intro i s t h
  have hk := exec_keeps h
  obtain ⟨hcfg, hlines, hinputs, hnmi, hstart, hboundary⟩ := hk.sameInputs
  exact ⟨hcfg, hlines, hinputs, hnmi, hstart, hboundary, hk.sameHidden, hk.env.trace, hk.env.answered, hk.env.drawn, hk.env.quiet,
    hk.env.undrawn, fun htr => (Keeps.ahead_of_no_transfer (htr ▸ hk)).2, fun htr => Keeps.ahead_of_transfer (htr ▸ hk)⟩

end Sys2Proof.Machine

/-! ## The state: reset, register halves, FLAGS as a word, the status flags -/

namespace Sys2Proof.Machine

/-! ### Reset -/

/-- Settles O55: after reset memory is empty and nothing is held, repeated or fetched ahead. -/
theorem legalAtReset : Obligations.LegalAtReset := by
  refine ⟨reset_mem_wf, ?_, ?_, fun _ => rfl, fun _ => rfl⟩
  · rintro ⟨hhalt, -⟩
    cases hhalt
  · intro i hrep
    cases hrep

/-- Settles O56, value by value. -/
theorem resetValues : Obligations.ResetValues :=
  ⟨rfl, rfl, rfl, rfl, rfl, rfl, rfl, rfl, rfl, rfl, by decide⟩

/-! ### Byte halves of the word registers -/

@[simp] theorem lowByte_wordOf (lo hi : Byte) : lowByte (wordOf lo hi) = lo :=
  BitVec.extractLsb'_append_eq_right

@[simp] theorem highByte_wordOf (lo hi : Byte) : highByte (wordOf lo hi) = hi :=
  BitVec.extractLsb'_append_eq_left

theorem reg16_setReg16_same (s : State) (n : RegNum) (v : Word) : (s.setReg16 n v).reg16 n = v := Regs.get_set_same ..

theorem reg16_setReg16_other (s : State) {n m : RegNum} (v : Word) (h : m ≠ n) : (s.setReg16 n v).reg16 m = s.reg16 m :=
  Regs.get_set_other _ v h

/-- Two byte registers in the same half of the same word register are the same (10_state.md R31). -/
theorem byteHome_injective : ∀ {n m : RegNum}, byteHome n = byteHome m → n = m := by
  intro n m
  cases n <;> cases m <;> simp [byteHome]

/-- A byte register by its place: the half of the word register that holds it. -/
theorem reg8_eq (s : State) (n : RegNum) :
    s.reg8 n = if (byteHome n).2 then highByte (s.reg16 (byteHome n).1) else lowByte (s.reg16 (byteHome n).1) := rfl

theorem setReg8_eq_setReg16 (s : State) (n : RegNum) (v : Byte) :
    s.setReg8 n v = s.setReg16 (byteHome n).1 (if (byteHome n).2 then wordOf (lowByte (s.reg16 (byteHome n).1)) v
      else wordOf v (highByte (s.reg16 (byteHome n).1))) := by
  unfold State.setReg8
  split
  rename_i r high hn
  cases high <;> simp [hn]

theorem reg8_setReg8_same (s : State) (n : RegNum) (v : Byte) : (s.setReg8 n v).reg8 n = v := by
  rw [reg8_eq, setReg8_eq_setReg16, reg16_setReg16_same]
  split <;> simp

/-- A byte-register write keeps every other byte register: it lies in another word register, or in the other half of the same. -/
theorem reg8_setReg8_other (s : State) {n m : RegNum} (v : Byte) (h : m ≠ n) : (s.setReg8 n v).reg8 m = s.reg8 m := by
  rw [reg8_eq, reg8_eq, setReg8_eq_setReg16]
  by_cases hr : (byteHome m).1 = (byteHome n).1
  · have hhalf : (byteHome m).2 ≠ (byteHome n).2 := fun hh => h (byteHome_injective (Prod.ext hr hh))
    rw [hr, reg16_setReg16_same]
    cases hn : (byteHome n).2 <;> cases hm : (byteHome m).2 <;> simp_all
  · rw [reg16_setReg16_other _ _ hr]

/-- Settles O6: a byte register is half of a word register, and a write of it is a write of that word register. -/
theorem byteRegisterHalves : Obligations.ByteRegisterHalves := by
  intro s n v r u
  refine ⟨reg8_setReg8_same s n v, ?_, fun m hm => reg8_setReg8_other s v hm, fun m hm => ?_, reg16_setReg16_same s r u,
    fun m hm => ?_, fun m hm => ?_, fun m hm => reg16_setReg16_other s u hm⟩
  · rw [setReg8_eq_setReg16, reg16_setReg16_same]
    rfl
  · rw [setReg8_eq_setReg16, reg16_setReg16_other _ _ hm]
  · rw [reg8_eq, hm, reg16_setReg16_same]
    rfl
  · rw [reg8_eq, hm, reg16_setReg16_same]
    rfl

/-! ### FLAGS as a word -/

/-- At the unnamed positions there is no named flag. -/
theorem Flags.bitAt_of_unnamed (f : Flags) {i : Nat} (h : unnamedFlags.getLsbD i = true) : f.bitAt i = false := by
  have hi : i < 16 := BitVec.lt_of_getLsbD h
  revert h
  interval_cases i <;> simp [unnamedFlags, Flags.bitAt]

/-- At the other positions the FLAGS word holds the named flag, whatever the parameters. -/
theorem Flags.toWord_getLsbD_of_named (cfg : Config) (f : Flags) {i : Nat} (hi : i < 16) (h : unnamedFlags.getLsbD i = false) :
    (f.toWord cfg).getLsbD i = f.bitAt i := by
  simp [Flags.toWord_getLsbD cfg f hi, h]

/-- A word written gives each named flag the bit at its position (10_state.md R40). -/
theorem Flags.bitAt_ofWord (v : Word) {i : Nat} (hi : i < 16) (h : unnamedFlags.getLsbD i = false) :
    (Flags.ofWord v).bitAt i = v.getLsbD i := by
  revert h
  interval_cases i <;> simp [unnamedFlags, Flags.bitAt, Flags.ofWord]

/-- The unnamed bits read as the parameters fix them (10_state.md R41). -/
theorem Flags.toWord_and_unnamed (cfg : Config) (f : Flags) :
    f.toWord cfg &&& unnamedFlags = (cfg.flagsValue &&& cfg.flagsMask) &&& unnamedFlags := by
  refine BitVec.eq_of_getLsbD_eq fun i hi => ?_
  cases h : unnamedFlags.getLsbD i with
  | true => simp [Flags.toWord_getLsbD cfg f hi, h, f.bitAt_of_unnamed h]
  | false => simp [h]

/-- The named bits of a word survive being written and read (10_state.md R40, R41). -/
theorem Flags.ofWord_toWord_and_named (cfg : Config) (v : Word) :
    (Flags.ofWord v).toWord cfg &&& ~~~unnamedFlags = v &&& ~~~unnamedFlags := by
  refine BitVec.eq_of_getLsbD_eq fun i hi => ?_
  cases h : unnamedFlags.getLsbD i with
  | true => simp [h]
  | false => simp [h, Flags.toWord_getLsbD_of_named cfg _ hi h, Flags.bitAt_ofWord v hi h]

/-- Settles O15, from the bit of the FLAGS word at each position. -/
theorem flagsWordBits : Obligations.FlagsWordBits := by
  intro cfg f v
  have named {i : Nat} (hi : i < 16) (h : unnamedFlags.getLsbD i = false) : (f.toWord cfg).getLsbD i = f.bitAt i :=
    Flags.toWord_getLsbD_of_named cfg f hi h
  have h0 := named (i := 0) (by decide) (by decide)
  have h2 := named (i := 2) (by decide) (by decide)
  have h4 := named (i := 4) (by decide) (by decide)
  have h6 := named (i := 6) (by decide) (by decide)
  have h7 := named (i := 7) (by decide) (by decide)
  have h8 := named (i := 8) (by decide) (by decide)
  have h9 := named (i := 9) (by decide) (by decide)
  have h10 := named (i := 10) (by decide) (by decide)
  have h11 := named (i := 11) (by decide) (by decide)
  refine ⟨?_, Flags.toWord_and_unnamed cfg f, fun g => (Flags.toWord_and_unnamed .default g).trans (by decide),
    Flags.ofWord_toWord_and_named cfg v, h0, h2, h4, h6, h7, h8, h9, h10, h11⟩
  simp only [Flags.ofWord, h0, h2, h4, h6, h7, h8, h9, h10, h11]
  rfl

end Sys2Proof.Machine

/-! ## The status flags against exact integers -/

namespace Sys2Proof.Machine

section
variable {n : Nat}

/-! ### Results and their bits -/

theorem addResult_eq (a b : BitVec n) (c : Bool) : addResult a b c = a + b + BitVec.ofNat n c.toNat := by
  simp [addResult, BitVec.ofNat_add]

theorem subResult_eq (a b : BitVec n) (c : Bool) : subResult a b c = a - b - BitVec.ofNat n c.toNat := by
  have hadd : subResult a b c + BitVec.ofNat n c.toNat + BitVec.ofNat n b.toNat = BitVec.ofNat n a.toNat := by
    simp only [subResult, ← BitVec.ofInt_natCast, ← BitVec.ofInt_add, Int.sub_add_cancel]
  rw [BitVec.ofNat_toNat, BitVec.ofNat_toNat, BitVec.setWidth_eq, BitVec.setWidth_eq] at hadd
  rw [eq_sub_iff_add_eq, eq_sub_iff_add_eq, hadd]

theorem msb_iff_toInt_neg (a : BitVec n) : a.msb = true ↔ a.toInt < 0 := by simp [BitVec.msb_eq_toInt]

theorem toNat_nibble (a : BitVec n) : (a.extractLsb' 0 4).toNat = a.toNat % 16 := by simp

/-- Even parity counts the 1 bits among the low 8 (10_state.md R42). -/
theorem foldl_xor_eq_parity (f : Nat → Bool) (l : List Nat) (p : Bool) :
    l.foldl (fun p i => p ^^ f i) p = (p ^^ decide ((l.filter f).length % 2 = 1)) := by
  induction l generalizing p with
  | nil => simp
  | cons i l ih =>
    rw [List.foldl_cons, ih, List.filter_cons]
    cases hf : f i with
    | false => simp
    | true =>
      have hodd : decide (((l.filter f).length + 1) % 2 = 1) = !decide ((l.filter f).length % 2 = 1) := by
        rcases Nat.mod_two_eq_zero_or_one (l.filter f).length with h | h <;> simp [h, Nat.add_mod]
      simp [hodd]

theorem evenParity_iff (a : BitVec n) :
    evenParity a = true ↔ ((List.range 8).filter fun i => a.getLsbD i).length % 2 = 0 := by
  rw [evenParity, foldl_xor_eq_parity]
  simp

/-! ### Signed overflow -/

/-- The balanced remainder of an integer less than one and a half ranges away from 0. -/
theorem bmod_eq_of_near {m : Nat} {x : Int} (hlo : -(3 * m) ≤ x) (hhi : x < 3 * m) :
    x.bmod (2 * m) = if x < -m then x + 2 * m else if m ≤ x then x - 2 * m else x := by
  split
  · rw [← Int.add_bmod_right x (2 * m), Int.bmod_eq_of_le_mul_two] <;> omega
  · split
    · have hback := Int.add_bmod_right (x - (2 * m : Nat)) (2 * m)
      rw [Int.sub_add_cancel] at hback
      rw [hback, Int.bmod_eq_of_le_mul_two] <;> omega
    · exact Int.bmod_eq_of_le_mul_two (by omega) (by omega)

/-- A signed sum with carry leaves the range exactly where both operands have one sign and the result the other. -/
theorem add_overflow_iff {m : Nat} {a b c : Int} (ha : -m ≤ a ∧ a < m) (hb : -m ≤ b ∧ b < m) (hc : 0 ≤ c ∧ c ≤ 1) :
    ((a < 0 ↔ b < 0) ∧ ¬ ((a + b + c).bmod (2 * m) < 0 ↔ a < 0)) ↔ a + b + c ≠ (a + b + c).bmod (2 * m) := by
  rw [bmod_eq_of_near (by omega) (by omega)]
  split
  · omega
  · split <;> omega

/-- A signed difference with borrow leaves the range exactly where the operands have two signs and the result that of the second. -/
theorem sub_overflow_iff {m : Nat} {a b c : Int} (ha : -m ≤ a ∧ a < m) (hb : -m ≤ b ∧ b < m) (hc : 0 ≤ c ∧ c ≤ 1) :
    (¬ (a < 0 ↔ b < 0) ∧ ¬ ((a - b - c).bmod (2 * m) < 0 ↔ a < 0)) ↔ a - b - c ≠ (a - b - c).bmod (2 * m) := by
  rw [bmod_eq_of_near (by omega) (by omega)]
  split
  · omega
  · split <;> omega

/-- The range of the signed values of a width (00_scope.md R10). -/
theorem toInt_bounds (a : BitVec n) : -(2 ^ (n - 1) : Nat) ≤ a.toInt ∧ a.toInt < (2 ^ (n - 1) : Nat) := by
  have hlo := a.le_toInt
  have hhi := a.toInt_lt
  push_cast
  exact ⟨hlo, hhi⟩

theorem two_pow_eq_two_mul (hn : 0 < n) : 2 ^ n = 2 * 2 ^ (n - 1) := by
  rw [← Nat.pow_succ', Nat.succ_eq_add_one, Nat.sub_add_cancel hn]

theorem toInt_ofNat_eq_bmod (k : Nat) : (BitVec.ofNat n k).toInt = (k : Int).bmod (2 ^ n) := by
  rw [← BitVec.ofInt_natCast, BitVec.toInt_ofInt]

theorem toInt_add_carry (a b : BitVec n) (c : Bool) :
    (a + b + BitVec.ofNat n c.toNat).toInt = (a.toInt + b.toInt + c.toNat).bmod (2 ^ n) := by
  rw [BitVec.toInt_add, BitVec.toInt_add, toInt_ofNat_eq_bmod, Int.bmod_add_bmod, Int.add_bmod_bmod]

theorem toInt_sub_borrow (a b : BitVec n) (c : Bool) :
    (a - b - BitVec.ofNat n c.toNat).toInt = (a.toInt - b.toInt - c.toNat).bmod (2 ^ n) := by
  rw [BitVec.toInt_sub, BitVec.toInt_sub, toInt_ofNat_eq_bmod, Int.bmod_sub_bmod, Int.sub_bmod_bmod]

theorem Flags.add_ofl_iff (hn : 0 < n) (f : Flags) (a b : BitVec n) (c : Bool) :
    (f.add a b c).ofl = true ↔ a.toInt + b.toInt + c.toNat ≠ (a + b + BitVec.ofNat n c.toNat).toInt := by
  have hc : (0 : Int) ≤ c.toNat ∧ (c.toNat : Int) ≤ 1 := by cases c <;> decide
  rw [toInt_add_carry, two_pow_eq_two_mul hn, ← add_overflow_iff (toInt_bounds a) (toInt_bounds b) hc, ← two_pow_eq_two_mul hn,
    ← toInt_add_carry]
  simp [Flags.add, addResult_eq, BitVec.msb_eq_toInt]

theorem Flags.sub_ofl_iff (hn : 0 < n) (f : Flags) (a b : BitVec n) (c : Bool) :
    (f.sub a b c).ofl = true ↔ a.toInt - b.toInt - c.toNat ≠ (a - b - BitVec.ofNat n c.toNat).toInt := by
  have hc : (0 : Int) ≤ c.toNat ∧ (c.toNat : Int) ≤ 1 := by cases c <;> decide
  rw [toInt_sub_borrow, two_pow_eq_two_mul hn, ← sub_overflow_iff (toInt_bounds a) (toInt_bounds b) hc, ← two_pow_eq_two_mul hn,
    ← toInt_sub_borrow]
  simp [Flags.sub, subResult_eq, BitVec.msb_eq_toInt]

/-! ### Sign, zero and parity -/

/-- SF, ZF and PF are those of the value `v`. -/
structure Flags.Describes (f : Flags) (v : BitVec n) : Prop where
  zf : f.zf = true ↔ v = 0
  sf : f.sf = true ↔ v.toInt < 0
  pf : f.pf = evenParity v

theorem Flags.szp_describes (f : Flags) (v : BitVec n) : (f.szp v).Describes v :=
  ⟨by simp [Flags.szp], msb_iff_toInt_neg v, rfl⟩

theorem Flags.add_describes (f : Flags) (a b : BitVec n) (c : Bool) :
    (f.add a b c).Describes (a + b + BitVec.ofNat n c.toNat) := by
  obtain ⟨hz, hs, hp⟩ := f.szp_describes (addResult a b c)
  exact addResult_eq a b c ▸ ⟨hz, hs, hp⟩

theorem Flags.sub_describes (f : Flags) (a b : BitVec n) (c : Bool) :
    (f.sub a b c).Describes (a - b - BitVec.ofNat n c.toNat) := by
  obtain ⟨hz, hs, hp⟩ := f.szp_describes (subResult a b c)
  exact subResult_eq a b c ▸ ⟨hz, hs, hp⟩

theorem Flags.logic_describes (f : Flags) (a : BitVec n) (u : Word) : (f.logic a u).Describes a := by
  obtain ⟨hz, hs, hp⟩ := f.szp_describes a
  exact ⟨hz, hs, hp⟩

end

/-- Settles O23: the carries and borrows are sums of naturals, the overflows those of the signed range. -/
theorem statusFlagsMean : Obligations.StatusFlagsMean := by
  intro n a b c f u hn
  have hpos : 0 < n := by omega
  have hadd := f.add_describes a b c
  have hsub := f.sub_describes a b c
  have hlog := f.logic_describes a u
  rw [toNat_nibble, toNat_nibble]
  exact ⟨decide_eq_true_iff, decide_eq_true_iff, f.add_ofl_iff hpos a b c, hadd.zf, hadd.sf, hadd.pf,
    decide_eq_true_iff, decide_eq_true_iff, f.sub_ofl_iff hpos a b c, hsub.zf, hsub.sf, hsub.pf,
    rfl, rfl, hlog.sf, hlog.zf, hlog.pf, rfl, f.add_control a b c, f.sub_control a b c, f.logic_control a u, evenParity_iff a⟩

end Sys2Proof.Machine

/-! ## Memory: the frame of every instruction, and the operations that keep a legal state

`State.Sound p r` is the part of `State.Legal` that every operation keeps. An operation is `Op.Sound` if it keeps it; a sequence of
sound operations is sound (`Op.Sound.bind`), so each instruction's proof follows its definition. Only HLT, WAIT, the bytes of
`isPrefix` and the string instructions need more, and `legalKept` puts these together along the branches of a step. -/

namespace Sys2Proof.Machine

/-- Settles O51: every instruction keeps to its effects, which name the addresses of `storedBytes`. -/
theorem memoryFrame : Obligations.MemoryFrame :=
  fun _ _ _ h => (exec_keeps h).mem

/-! ### What a step keeps, and the operations that keep it -/

/-- The fields that `State.Legal` speaks of, but for CX. -/
def State.kept (s : State) : Memory × Config × List (Nat × Option Byte) × Bool × Bool × Prefixes × Option Instr :=
  (s.mem, s.cfg, s.stale, s.halted, s.waiting, s.pfx, s.repeating)

/-- The part of `State.Legal` that every operation keeps, with the prefixes read `p` and the repetition `r`, which only few
instructions change (30_encoding.md R140; 43_string.md R345). -/
structure State.Sound (s : State) (p : Prefixes) (r : Option Instr) : Prop where
  mem_wf : Memory.wf s.mem = true
  coherent : s.cfg.prefetchDepth = 0 → s.stale = []
  one_hold : ¬ (s.halted = true ∧ s.waiting = true)
  pfx : s.pfx = p
  repeating : s.repeating = r

/-- Where no byte before the instruction has been read, none is remembered (30_encoding.md R140). -/
def Prefixes.Legal (p : Prefixes) : Prop := p.active = false → p = .none

section
variable {p : Prefixes} {r : Option Instr} {s t : State}

theorem State.kept_eq_iff : t.kept = s.kept ↔ t.mem = s.mem ∧ t.cfg = s.cfg ∧ t.stale = s.stale ∧ t.halted = s.halted ∧
    t.waiting = s.waiting ∧ t.pfx = s.pfx ∧ t.repeating = s.repeating := by simp only [State.kept, Prod.mk.injEq]

theorem State.Legal.congr (h : s.Legal) (hk : t.kept = s.kept) (hcx : t.regs.cx = s.regs.cx) : t.Legal := by
  obtain ⟨hmem, hcfg, hstale, hhalt, hwait, hpfx, hrep⟩ := State.kept_eq_iff.1 hk
  exact ⟨hmem ▸ h.mem_wf, by rw [hhalt, hwait]; exact h.one_hold, by rw [hrep, hpfx, hcx]; exact h.repeats,
    by rw [hcfg, hstale]; exact h.coherent, by rw [hpfx]; exact h.prefixes⟩

theorem State.Legal.sound (h : s.Legal) : s.Sound s.pfx s.repeating := ⟨h.mem_wf, h.coherent, h.one_hold, rfl, rfl⟩

/-- With no repetition in progress CX is free. -/
theorem State.Sound.legal (h : s.Sound p none) (hp : p.Legal) : s.Legal :=
  ⟨h.mem_wf, h.one_hold, fun _ hi => (nomatch h.repeating.symm.trans hi), h.coherent, h.pfx ▸ hp⟩

theorem State.Sound.congr (h : s.Sound p r) (hk : t.kept = s.kept) : t.Sound p r := by
  obtain ⟨hmem, hcfg, hstale, hhalt, hwait, hpfx, hrep⟩ := State.kept_eq_iff.1 hk
  exact ⟨hmem ▸ h.mem_wf, by rw [hcfg, hstale]; exact h.coherent, by rw [hhalt, hwait]; exact h.one_hold, hpfx.trans h.pfx,
    hrep.trans h.repeating⟩

theorem setReg_kept (s : State) (w : Width) (n : RegNum) (v : BitVec w.bits) : (s.setReg w n v).kept = s.kept := by
  obtain ⟨g, hg⟩ := setReg_eq s w n v
  rw [hg]
  rfl

theorem State.Sound.setReg (h : s.Sound p r) (w : Width) (n : RegNum) (v : BitVec w.bits) : (s.setReg w n v).Sound p r :=
  h.congr (setReg_kept s w n v)

theorem State.Sound.setReg16 (h : s.Sound p r) (n : RegNum) (v : Word) : (s.setReg16 n v).Sound p r := h.congr rfl

theorem State.Sound.setSreg (h : s.Sound p r) (n : SReg) (v : Word) : (s.setSreg n v).Sound p r := h.congr rfl

theorem State.Sound.setFlags (h : s.Sound p r) (f : Flags) : (s.setFlags f).Sound p r := h.congr rfl

theorem State.Sound.setReg8 (h : s.Sound p r) (n : RegNum) (v : Byte) : (s.setReg8 n v).Sound p r := h.setReg .byte n v

/-- With PREFETCH_DEPTH = 0 no address may have been fetched ahead (20_memory.md R104). -/
theorem mayBePrefetched_of_depth_zero (h : s.cfg.prefetchDepth = 0) (x : Nat) : s.mayBePrefetched x = false := by
  simp [State.mayBePrefetched, h]

theorem State.Sound.storeByte (h : s.Sound p r) {x : Nat} (hx : x < 2 ^ 20) (v : Byte) : (s.storeByte x v).Sound p r where
  mem_wf := storeByte_wf s hx v h.mem_wf
  coherent hd := by
    rw [storeByte_cfg] at hd
    rw [storeByte_stale, mayBePrefetched_of_depth_zero hd]
    simpa using h.coherent hd
  one_hold := by simpa using h.one_hold
  pfx := by simpa using h.pfx
  repeating := by simpa using h.repeating

theorem State.Sound.store (h : s.Sound p r) (w : Width) (seg off : Word) (v : BitVec w.bits) : (s.store w seg off v).Sound p r := by
  cases w with
  | byte => exact h.storeByte (byteAddr_lt _ _ _ _) _
  | word => exact (h.storeByte (byteAddr_lt _ _ _ _) _).storeByte (byteAddr_lt _ _ _ _) _

theorem State.Sound.writeLoc (h : s.Sound p r) (w : Width) (l : Loc) (v : BitVec w.bits) : (s.writeLoc w l v).Sound p r := by
  cases l with
  | reg n => exact h.setReg w n v
  | mem seg off => exact h.store w seg off v

theorem State.Sound.push16 (h : s.Sound p r) (v : Word) : (s.push16 v).Sound p r :=
  (h.setReg16 .sp (s.regs.sp - 2)).store .word _ _ v

theorem State.Sound.foldl_push16 (vs : List Word) : ∀ {s : State}, s.Sound p r → (vs.foldl State.push16 s).Sound p r := by
  induction vs with
  | nil => exact fun h => h
  | cons v vs ih => exact fun h => ih (h.push16 v)

/-- A transfer discards what was kept for the fetch. -/
theorem State.Sound.jump (h : s.Sound p r) (off : Word) : (s.jump off).Sound p r :=
  ⟨h.mem_wf, fun _ => rfl, h.one_hold, h.pfx, h.repeating⟩

theorem State.Sound.jumpFar (h : s.Sound p r) (seg off : Word) : (s.jumpFar seg off).Sound p r :=
  (h.setSreg .cs seg).jump off

theorem State.Sound.endHolds (h : s.Sound p r) : ((s.setHalted false).setWaiting false).Sound p r :=
  ⟨h.mem_wf, h.coherent, nofun, h.pfx, h.repeating⟩

theorem State.Sound.shadow (h : s.Sound p r) : s.shadow.Sound p r := by
  unfold State.shadow
  split
  · exact h.congr rfl
  · exact h

end

/-! ### Operations -/

/-- The operation keeps sound states sound, and the prefixes read and the repetition as they are. -/
def Op.Sound {α : Type} (m : Op α) : Prop :=
  ∀ ⦃p : Prefixes⦄ ⦃r : Option Instr⦄ ⦃s t : State⦄ ⦃a : α⦄, s.Sound p r → m s = .ok (a, t) → t.Sound p r

section
variable {α β : Type} {p : Prefixes} {r : Option Instr} {s t : State}

theorem Op.Sound.done (a : α) : (pure a : Op α).Sound := by
  intro p r s t b hs h
  cases h
  exact hs

theorem Op.Sound.update {f : State → State} (hf : ∀ ⦃p r s⦄, State.Sound s p r → (f s).Sound p r) :
    (Op.update f).Sound := by
  intro p r s t a hs h
  cases h
  exact hf hs

/-- An update of other fields. -/
theorem Op.Sound.quiet {f : State → State} (hf : ∀ s, (f s).kept = s.kept) : (Op.update f).Sound :=
  .update fun _ _ s h => h.congr (hf s)

theorem Op.Sound.bind {m : Op α} {f : α → Op β} (hm : m.Sound) (hf : ∀ a, (f a).Sound) : (m >>= f).Sound := by
  intro p r s t b hs h
  obtain ⟨a, u, hma, hfb⟩ := Op.bind_ok h
  exact hf a (hm hs hma) hfb

/-- A look at the state keeps it; what follows may depend on it. -/
theorem Op.Sound.get_bind {f : State → Op β} (hf : ∀ s, (f s).Sound) : (get >>= f).Sound :=
  fun _ _ s _ _ hs h => hf s hs (Op.get_bind_ok h)

theorem Op.Sound.draw_bind {f : Word → Op β} (hf : ∀ u, (f u).Sound) : (draw >>= f).Sound :=
  fun _ _ s _ _ hs h => hf s.drawn (hs.congr rfl : s.drew.Sound _ _) h

/-- An operation that changes at most the environment's fields. -/
theorem Op.Sound.of_env {m : Op α}
    (hm : ∀ {s t a}, m s = .ok (a, t) → ∃ a e d, t = ((s.setAnswers a).setEvents e).setDraws d) : m.Sound := by
  intro p r s t b hs h
  obtain ⟨a, e, d, rfl⟩ := hm h
  exact hs.congr rfl

theorem load_sound (w : Width) (seg off : Word) : (load w seg off).Sound := .of_env load_ok

theorem readLoc_sound (w : Width) (l : Loc) : (readLoc w l).Sound := .of_env readLoc_ok

theorem readRM_sound (w : Width) (rm : RM) : (readRM w rm).Sound := .get_bind fun _ => readLoc_sound w _

theorem readPair_sound (m : MemEA) : (readPair m).Sound := .of_env readPair_ok

theorem ioRead_sound (w : Width) (port : Word) : (ioRead w port).Sound := .of_env ioRead_ok

theorem pop16_sound : pop16.Sound :=
  .get_bind fun _ => .bind (load_sound _ _ _) fun _ => .bind (.quiet fun _ => rfl) fun _ => .done _

theorem interrupt_sound (n : Byte) (ret : Word) : (interrupt n ret).Sound :=
  .bind (load_sound _ _ _) fun ip => .bind (load_sound _ _ _) fun cs => .update fun _ _ s h =>
    (((((h.push16 s.flagsWord).setFlags _).push16 _).push16 ret).jumpFar cs ip).endHolds

theorem interruptReturn_sound : interruptReturn.Sound :=
  .bind pop16_sound fun ip => .bind pop16_sound fun cs => .bind pop16_sound fun _ => .update fun _ _ _ h =>
    (h.jumpFar cs ip).setFlags _

/-! ### Operations on values and the forms that instructions share -/

theorem addOp_sound (w : Width) (a b : BitVec w.bits) : (addOp w a b).Sound :=
  .bind (.quiet fun _ => rfl) fun _ => .done _

theorem adcOp_sound (w : Width) (a b : BitVec w.bits) : (adcOp w a b).Sound :=
  .get_bind fun _ => .bind (.quiet fun _ => rfl) fun _ => .done _

theorem subOp_sound (w : Width) (a b : BitVec w.bits) : (subOp w a b).Sound :=
  .bind (.quiet fun _ => rfl) fun _ => .done _

theorem sbbOp_sound (w : Width) (a b : BitVec w.bits) : (sbbOp w a b).Sound :=
  .get_bind fun _ => .bind (.quiet fun _ => rfl) fun _ => .done _

theorem incOp_sound (w : Width) (a : BitVec w.bits) : (incOp w a).Sound :=
  .bind (.quiet fun _ => rfl) fun _ => .done _

theorem decOp_sound (w : Width) (a : BitVec w.bits) : (decOp w a).Sound :=
  .bind (.quiet fun _ => rfl) fun _ => .done _

theorem logicOp_sound (w : Width) (a : BitVec w.bits) : (logicOp w a).Sound :=
  .draw_bind fun _ => .bind (.quiet fun _ => rfl) fun _ => .done _

theorem modifyRM_sound {w : Width} {o : BitVec w.bits → Op (BitVec w.bits)} (ho : ∀ a, (o a).Sound) (rm : RM) :
    (modifyRM o rm).Sound :=
  .get_bind fun s => .bind (readLoc_sound w (s.locate rm)) fun a => .bind (ho a) fun v => .update fun _ _ _ h =>
    h.writeLoc w (s.locate rm) v

end

section
variable {op : BinOp} (hop : ∀ w a b, (op w a b).Sound)
include hop

theorem binRmVal_sound (w : Width) (rm : RM) (b : BitVec w.bits) : (binRmVal op w rm b).Sound :=
  modifyRM_sound (fun a => hop w a b) rm

theorem binRmReg_sound (w : Width) (rm : RM) (r : RegNum) : (binRmReg op w rm r).Sound :=
  modifyRM_sound (o := fun a => do op w a ((← get).reg w r)) (fun a => .get_bind fun _ => hop w a _) rm

theorem binRegRm_sound (w : Width) (r : RegNum) (rm : RM) : (binRegRm op w r rm).Sound :=
  .bind (readRM_sound w rm) fun _ => .get_bind fun _ => .bind (hop w _ _) fun v => .update fun _ _ _ h => h.setReg w r v

theorem binRmImm_sound (rm : RM) (imm : Imm) : (binRmImm op rm imm).Sound := by
  cases imm with
  | ib b => exact binRmVal_sound hop .byte rm b
  | iw v => exact binRmVal_sound hop .word rm v

theorem binAcc_sound (imm : Imm) : (binAcc op imm).Sound := by
  cases imm with
  | ib b => exact binRmVal_sound hop .byte _ b
  | iw v => exact binRmVal_sound hop .word _ v

theorem testRmVal_sound (w : Width) (rm : RM) (b : BitVec w.bits) : (testRmVal op w rm b).Sound :=
  .bind (readRM_sound w rm) fun _ => .bind (hop w _ b) fun _ => .done _

theorem testRmReg_sound (w : Width) (rm : RM) (r : RegNum) : (testRmReg op w rm r).Sound :=
  .bind (readRM_sound w rm) fun _ => .get_bind fun _ => .bind (hop w _ _) fun _ => .done _

theorem testRegRm_sound (w : Width) (r : RegNum) (rm : RM) : (testRegRm op w r rm).Sound :=
  .bind (readRM_sound w rm) fun _ => .get_bind fun _ => .bind (hop w _ _) fun _ => .done _

theorem testRmImm_sound (rm : RM) (imm : Imm) : (testRmImm op rm imm).Sound := by
  cases imm with
  | ib b => exact testRmVal_sound hop .byte rm b
  | iw v => exact testRmVal_sound hop .word rm v

theorem testAcc_sound (imm : Imm) : (testAcc op imm).Sound := by
  cases imm with
  | ib b => exact testRmVal_sound hop .byte _ b
  | iw v => exact testRmVal_sound hop .word _ v

end

end Sys2Proof.Machine

/-! ## What every instruction keeps of a legal state -/

namespace Sys2Proof.Machine

/-! ### Arithmetic, shifts and adjustments -/

theorem unary_sound {op : (w : Width) → BitVec w.bits → Op (BitVec w.bits)} (hop : ∀ w a, (op w a).Sound) (w : Width)
    (rm : RM) : (unary op w rm).Sound :=
  modifyRM_sound (hop w) rm

theorem shiftRm_sound (k : ShiftKind) (w : Width) (n : ShiftBy) (rm : RM) : (shiftRm k w n rm).Sound :=
  .get_bind fun s => .bind (readLoc_sound w (s.locate rm)) fun x => by
    have hwrite {y : BitVec w.bits} {c : Bool} (u : Word) : (Op.update fun t =>
        (t.setFlags (t.flags.shifted k (s.shiftCount n) x y c u)).writeLoc w (s.locate rm) y).Sound :=
      .update fun _ _ _ h => (h.setFlags _).writeLoc w (s.locate rm) y
    dsimp only
    split
    · exact .draw_bind hwrite
    · exact .bind (.done 0) hwrite

theorem setProduct_sound (w : Width) (p : BitVec 32) (c : Bool) : (setProduct w p c).Sound := by
  cases w <;> exact .draw_bind fun _ => .quiet fun _ => rfl

theorem mulOp_sound (w : Width) (rm : RM) : (mulOp w rm).Sound :=
  .bind (readRM_sound w rm) fun _ => .get_bind fun _ => setProduct_sound w _ _

theorem imulOp_sound (w : Width) (rm : RM) : (imulOp w rm).Sound :=
  .bind (readRM_sound w rm) fun _ => .get_bind fun _ => setProduct_sound w _ _

theorem State.Sound.setQuotient {p : Prefixes} {r : Option Instr} {s : State} (h : s.Sound p r) (w : Width) (x y : BitVec w.bits) :
    (s.setQuotient w x y).Sound p r := by
  cases w with
  | byte => exact (h.setReg8 .al x).setReg8 .ah y
  | word => exact h.congr rfl

theorem divideOp_sound (res : (w : Width) → BitVec (2 * w.bits) → BitVec w.bits → Option (BitVec w.bits × BitVec w.bits))
    (w : Width) (rm : RM) : (divideOp res w rm).Sound :=
  .bind (readRM_sound w rm) fun d => .get_bind fun s => .draw_bind fun u => .bind (.quiet fun _ => rfl) fun _ => by
    cases res w (s.dividend w) d with
    | some q => exact .update fun _ _ _ h => h.setQuotient w q.1 q.2
    | none => exact .get_bind fun s => interrupt_sound 0 _

theorem asciiAdjust_sound (x c : Byte) : (asciiAdjust x c).Sound :=
  .get_bind fun s => .draw_bind fun u => .update fun _ _ _ h => by
    dsimp only
    split
    · exact ((h.setReg8 .al _).setReg8 .ah _).setFlags _
    · exact (h.setReg8 .al _).setFlags _

theorem decimalAdjust_sound (x y : Byte) (isOpen : Byte → Flags → Bool) : (decimalAdjust x y isOpen).Sound :=
  .get_bind fun _ => .draw_bind fun _ => .draw_bind fun _ => .update fun _ _ _ h => (h.setReg8 .al _).setFlags _

/-! ### The stack and control transfers -/

theorem popSreg_sound (n : SReg) : (popSreg n).Sound :=
  .bind pop16_sound fun v => .update fun _ _ _ h => (h.setSreg n v).shadow

theorem popInto_sound (d : Option RegNum) : (popInto d).Sound := by
  cases d with
  | none => exact .bind pop16_sound fun _ => .done _
  | some r => exact .bind pop16_sound fun _ => .quiet fun _ => rfl

theorem popAll_sound (ds : List (Option RegNum)) : (popAll ds).Sound := by
  induction ds with
  | nil => exact .done ()
  | cons d ds ih => exact .bind (popInto_sound d) fun _ => ih

theorem State.Sound.pushReg {p : Prefixes} {r : Option Instr} {s : State} (h : s.Sound p r) (n : RegNum) :
    (s.pushReg n).Sound p r := by
  unfold State.pushReg
  split <;> exact h.push16 _

theorem State.Sound.jumpShortIf {p : Prefixes} {r : Option Instr} {s : State} (h : s.Sound p r) (c : Bool) (b : Byte) :
    (s.jumpShortIf c b).Sound p r := by
  cases c with
  | false => exact h
  | true => exact h.jump _

theorem State.Sound.loopIf {p : Prefixes} {r : Option Instr} {s : State} (h : s.Sound p r) (c : Bool) (b : Byte) :
    (s.loopIf c b).Sound p r :=
  (h.setReg16 .cx (s.regs.cx - 1)).jumpShortIf _ b

theorem State.Sound.callFar {p : Prefixes} {r : Option Instr} {s : State} (h : s.Sound p r) (seg off : Word) :
    (s.callFar seg off).Sound p r :=
  ((h.push16 _).push16 _).jumpFar seg off

theorem returnNear_sound (n : Word) : (returnNear n).Sound :=
  .bind pop16_sound fun ip => .update fun _ _ _ h => (h.jump ip).congr rfl

theorem returnFar_sound (n : Word) : (returnFar n).Sound :=
  .bind pop16_sound fun ip => .bind pop16_sound fun cs => .update fun _ _ _ h => (h.jumpFar cs ip).congr rfl

theorem enterCopies_sound (n : Nat) : (enterCopies n).Sound := by
  induction n with
  | zero => exact .done ()
  | succ n ih =>
    exact .bind (.quiet fun _ => rfl) fun _ => .get_bind fun s => .bind (load_sound .word _ _) fun v =>
      .bind (.update fun _ _ _ h => h.push16 v) fun _ => ih

theorem enterOp_sound (size : Word) (level : Nat) : (enterOp size level).Sound :=
  .bind (.update fun _ _ _ h => h.push16 _) fun _ => .get_bind fun s => by
    have hend : (Op.update fun t => (t.setReg16 .bp s.regs.sp).setReg16 .sp (t.regs.sp - size)).Sound := .quiet fun _ => rfl
    dsimp only
    split
    · exact .bind (enterCopies_sound (level - 1)) fun _ => .bind (.update fun _ _ _ h => h.push16 s.regs.sp) fun _ => hend
    · exact hend

/-! ### Moves, ports and ESC -/

theorem loadPointer_sound (n : SReg) (r : RegNum) (m : MemEA) : (loadPointer n r m).Sound :=
  .bind (readPair_sound m) fun _ => .quiet fun _ => rfl

theorem inPort_sound (w : Width) (port : Word) : (inPort w port).Sound :=
  .bind (ioRead_sound w port) fun v => .update fun _ _ _ h => h.setReg w acc v

theorem escOp_sound (rm : RM) : (escOp rm).Sound :=
  .get_bind fun s => by
    cases s.locate rm with
    | reg r => exact .done ()
    | mem seg off => exact .bind (load_sound .word seg off) fun _ => .done _

/-! ### String elements -/

theorem State.Sound.writeDestination {p : Prefixes} {r : Option Instr} {s : State} (h : s.Sound p r) (w : Width)
    (v : BitVec w.bits) : (s.writeDestination w v).Sound p r :=
  h.store w _ _ v

theorem readSource_sound (w : Width) : (readSource w).Sound := .get_bind fun _ => load_sound w _ _

theorem readDestination_sound (w : Width) : (readDestination w).Sound := .get_bind fun _ => load_sound w _ _

theorem movsElement_sound (w : Width) : (movsElement w).Sound :=
  .bind (readSource_sound w) fun v => .update fun _ _ _ h => (h.writeDestination w v).congr rfl

theorem cmpsElement_sound (w : Width) : (cmpsElement w).Sound :=
  .bind (readSource_sound w) fun _ => .bind (readDestination_sound w) fun _ => .bind (subOp_sound w _ _) fun _ =>
    .quiet fun _ => rfl

theorem scasElement_sound (w : Width) : (scasElement w).Sound :=
  .bind (readDestination_sound w) fun _ => .get_bind fun _ => .bind (subOp_sound w _ _) fun _ => .quiet fun _ => rfl

theorem lodsElement_sound (w : Width) : (lodsElement w).Sound :=
  .bind (readSource_sound w) fun v => .update fun _ _ _ h => (h.setReg w acc v).congr rfl

theorem stosElement_sound (w : Width) : (stosElement w).Sound :=
  .update fun _ _ _ h => (h.writeDestination w _).congr rfl

theorem insElement_sound (w : Width) : (insElement w).Sound :=
  .get_bind fun _ => .bind (ioRead_sound w _) fun v => .update fun _ _ _ h => (h.writeDestination w v).congr rfl

theorem outsElement_sound (w : Width) : (outsElement w).Sound :=
  .bind (readSource_sound w) fun _ => .quiet fun _ => rfl

/-! ### Every instruction -/

section
variable {p : Prefixes} {r : Option Instr} {s t : State}

theorem runOp_sound {m : Op Unit} (h : runOp m s = .next t) (hs : s.Sound p r) (hm : m.Sound) : t.Sound p r :=
  hm hs (runOp_next.1 h)

/-- A meaning that always goes on. -/
theorem next_sound {u : State} (h : Host.Outcome.next u = (.next t : Host.Outcome State Fault Refusal)) (hu : u.Sound p r) :
    t.Sound p r := by
  cases h
  exact hu

/-- A string instruction without F2h or F3h is one element; under one of them the repetition it leaves is none, or its own with
elements left (43_string.md R345). -/
theorem stringInstr_sound {i : Instr} {c : Bool} {element : Op Unit} (hel : element.Sound) (hs : s.Sound p r)
    (h : stringInstr i c element s = .ok ((), t)) :
    (p.rep = none ∧ t.Sound p r) ∨ (p.rep.isSome = true ∧ (t.Sound p none ∨ (t.Sound p (some i) ∧ t.regs.cx ≠ 0))) := by
  have h := Op.get_bind_ok h
  rw [hs.pfx] at h
  cases hrep : p.rep with
  | none =>
    rw [hrep] at h
    exact .inl ⟨rfl, hel hs h⟩
  | some k =>
    rw [hrep] at h
    refine .inr ⟨rfl, ?_⟩
    dsimp only at h
    split at h
    · cases h
    · have h := Op.get_bind_ok h
      split at h
      · cases h
        exact .inl ⟨hs.mem_wf, hs.coherent, hs.one_hold, hs.pfx, rfl⟩
      · obtain ⟨_, u, hrun, h⟩ := Op.bind_ok h
        have hu := hel hs hrun
        cases h
        dsimp only
        split
        · rename_i hgo
          have hcx : u.regs.cx - 1 ≠ 0 := bne_iff_ne.1 (Bool.and_eq_true_iff.1 hgo).1
          exact .inr ⟨⟨hu.mem_wf, hu.coherent, hu.one_hold, hu.pfx, rfl⟩, hcx⟩
        · exact .inl ⟨hu.mem_wf, hu.coherent, hu.one_hold, hu.pfx, rfl⟩

theorem execAam_sound (hs : s.Sound p r) (h : execAam s = .next t) : t.Sound p r :=
  runOp_sound h hs <| .get_bind fun _ => .draw_bind fun _ => .update fun _ _ _ h => ((h.setReg8 .ah _).setReg8 .al _).setFlags _

theorem execAad_sound (hs : s.Sound p r) (h : execAad s = .next t) : t.Sound p r :=
  runOp_sound h hs <| .get_bind fun _ => .draw_bind fun _ => .update fun _ _ _ h => ((h.setReg8 .al _).setReg8 .ah _).setFlags _

theorem State.Sound.setHalted (hwait : s.waiting = false) (hs : s.Sound p r) : (s.setHalted true).Sound p r :=
  ⟨hs.mem_wf, hs.coherent, by simp [hwait], hs.pfx, hs.repeating⟩

theorem execWait_sound (hhalt : s.halted = false) (hs : s.Sound p r) (h : execWait s = .next t) : t.Sound p r := by
  cases h
  split
  · exact hs
  · exact ⟨hs.mem_wf, hs.coherent, by simp [hhalt], hs.pfx, hs.repeating⟩

theorem execEsc_sound (x l : BitVec 3) {rm : RM} (hs : s.Sound p r) (h : execEsc x l rm s = .next t) : t.Sound p r := by
  unfold execEsc at h
  split at h
  · cases h
  · exact escOp_sound rm hs (runOp_next.1 h)

theorem execInto_sound (hs : s.Sound p r) (h : execInto s = .next t) : t.Sound p r := by
  have h := runOp_next.1 h
  split at h
  · exact interrupt_sound 4 _ hs h
  · cases h
    exact hs

theorem execBound_sound {n : RegNum} {m : MemEA} (hs : s.Sound p r) (h : execBound n m s = .next t) : t.Sound p r := by
  refine runOp_sound h hs (.bind (readPair_sound m) fun q => ?_)
  dsimp only
  split
  · exact interrupt_sound 5 _
  · exact .done ()

/-- From a state without a hold every instruction outside `isPrefix` and `isString` keeps the prefixes read and the repetition. -/
theorem exec_sound {i : Instr} (hpre : isPrefix i = false) (hstr : isString i = false) (hhalt : s.halted = false)
    (hwait : s.waiting = false) (hs : s.Sound p r) (h : exec i s = .next t) : t.Sound p r := by
  cases i with
  | addRmReg => exact binRmReg_sound addOp_sound _ _ _ hs (runOp_next.1 h)
  | addRegRm => exact binRegRm_sound addOp_sound _ _ _ hs (runOp_next.1 h)
  | addAcc => exact binAcc_sound addOp_sound _ hs (runOp_next.1 h)
  | addRmImm => exact binRmImm_sound addOp_sound _ _ hs (runOp_next.1 h)
  | addRmImm8 => exact binRmVal_sound addOp_sound _ _ _ hs (runOp_next.1 h)
  | orRmReg | andRmReg | xorRmReg => exact binRmReg_sound (fun w _ _ => logicOp_sound w _) _ _ _ hs (runOp_next.1 h)
  | orRegRm | andRegRm | xorRegRm => exact binRegRm_sound (fun w _ _ => logicOp_sound w _) _ _ _ hs (runOp_next.1 h)
  | orAcc | andAcc | xorAcc => exact binAcc_sound (fun w _ _ => logicOp_sound w _) _ hs (runOp_next.1 h)
  | orRmImm | andRmImm | xorRmImm => exact binRmImm_sound (fun w _ _ => logicOp_sound w _) _ _ hs (runOp_next.1 h)
  | andRmImm8 => exact binRmVal_sound (fun w _ _ => logicOp_sound w _) _ _ _ hs (runOp_next.1 h)
  | adcRmReg => exact binRmReg_sound adcOp_sound _ _ _ hs (runOp_next.1 h)
  | adcRegRm => exact binRegRm_sound adcOp_sound _ _ _ hs (runOp_next.1 h)
  | adcAcc => exact binAcc_sound adcOp_sound _ hs (runOp_next.1 h)
  | adcRmImm => exact binRmImm_sound adcOp_sound _ _ hs (runOp_next.1 h)
  | adcRmImm8 => exact binRmVal_sound adcOp_sound _ _ _ hs (runOp_next.1 h)
  | sbbRmReg => exact binRmReg_sound sbbOp_sound _ _ _ hs (runOp_next.1 h)
  | sbbRegRm => exact binRegRm_sound sbbOp_sound _ _ _ hs (runOp_next.1 h)
  | sbbAcc => exact binAcc_sound sbbOp_sound _ hs (runOp_next.1 h)
  | sbbRmImm => exact binRmImm_sound sbbOp_sound _ _ hs (runOp_next.1 h)
  | sbbRmImm8 => exact binRmVal_sound sbbOp_sound _ _ _ hs (runOp_next.1 h)
  | subRmReg => exact binRmReg_sound subOp_sound _ _ _ hs (runOp_next.1 h)
  | subRegRm => exact binRegRm_sound subOp_sound _ _ _ hs (runOp_next.1 h)
  | subAcc => exact binAcc_sound subOp_sound _ hs (runOp_next.1 h)
  | subRmImm => exact binRmImm_sound subOp_sound _ _ hs (runOp_next.1 h)
  | subRmImm8 => exact binRmVal_sound subOp_sound _ _ _ hs (runOp_next.1 h)
  | cmpRmReg => exact testRmReg_sound subOp_sound _ _ _ hs (runOp_next.1 h)
  | cmpRegRm => exact testRegRm_sound subOp_sound _ _ _ hs (runOp_next.1 h)
  | cmpAcc => exact testAcc_sound subOp_sound _ hs (runOp_next.1 h)
  | cmpRmImm => exact testRmImm_sound subOp_sound _ _ hs (runOp_next.1 h)
  | cmpRmImm8 => exact testRmVal_sound subOp_sound _ _ _ hs (runOp_next.1 h)
  | testRmReg => exact testRmReg_sound (fun w _ _ => logicOp_sound w _) _ _ _ hs (runOp_next.1 h)
  | testAcc => exact testAcc_sound (fun w _ _ => logicOp_sound w _) _ hs (runOp_next.1 h)
  | testRmImm => exact testRmImm_sound (fun w _ _ => logicOp_sound w _) _ _ hs (runOp_next.1 h)
  | incRm => exact unary_sound incOp_sound _ _ hs (runOp_next.1 h)
  | incReg => exact unary_sound incOp_sound .word (.reg _) hs (runOp_next.1 h)
  | decReg => exact unary_sound decOp_sound .word (.reg _) hs (runOp_next.1 h)
  | decRm => exact unary_sound decOp_sound _ _ hs (runOp_next.1 h)
  | notRm => exact unary_sound (fun w a => .done (~~~a)) _ _ hs (runOp_next.1 h)
  | neg => exact unary_sound (fun w a => subOp_sound w 0 a) _ _ hs (runOp_next.1 h)
  | mul => exact mulOp_sound _ _ hs (runOp_next.1 h)
  | imul => exact imulOp_sound _ _ hs (runOp_next.1 h)
  | div | idiv => exact divideOp_sound _ _ _ hs (runOp_next.1 h)
  | aaa | aas => exact asciiAdjust_sound _ _ hs (runOp_next.1 h)
  | daa | das => exact decimalAdjust_sound _ _ _ hs (runOp_next.1 h)
  | aam => exact execAam_sound hs h
  | aad => exact execAad_sound hs h
  | rol | ror | rcl | rcr | shl | shr | sar => exact shiftRm_sound _ _ _ _ hs (runOp_next.1 h)
  | pushEs | pushCs | pushSs | pushDs | pushImm | pushImm8 | pushf => exact next_sound h (hs.push16 _)
  | pushReg => exact next_sound h (hs.pushReg _)
  | pushRm rm =>
    cases rm with
    | reg n => exact next_sound h (hs.pushReg n)
    | mem m => exact runOp_sound h hs (.bind (readRM_sound .word (.mem m)) fun _ => .update fun _ _ _ h => h.push16 _)
  | pusha => exact next_sound h (.foldl_push16 _ hs)
  | popEs | popSs | popDs => exact popSreg_sound _ hs (runOp_next.1 h)
  | popReg => exact runOp_sound h hs (.bind pop16_sound fun _ => .quiet fun _ => rfl)
  | popRm => exact runOp_sound h hs (.get_bind fun _ => .bind pop16_sound fun _ => .update fun _ _ _ h => h.writeLoc .word _ _)
  | popf => exact runOp_sound h hs (.bind pop16_sound fun _ => .quiet fun _ => rfl)
  | popa => exact popAll_sound _ hs (runOp_next.1 h)
  | movRmReg | movRmSreg => exact next_sound h (hs.writeLoc _ _ _)
  | movRegRm => exact runOp_sound h hs (.bind (readRM_sound _ _) fun _ => .update fun _ _ _ h => h.setReg _ _ _)
  | movRmImm rm imm => cases imm <;> exact next_sound h (hs.writeLoc _ _ _)
  | movRegImm n imm =>
    cases imm with
    | ib b => exact next_sound h (hs.setReg8 n b)
    | iw v => exact next_sound h (hs.setReg16 n v)
  | movAccMem => exact runOp_sound h hs (.bind (load_sound _ _ _) fun _ => .update fun _ _ _ h => h.setReg _ _ _)
  | movMemAcc => exact next_sound h (hs.store _ _ _ _)
  | movSregRm n =>
    exact runOp_sound h hs (.bind (readRM_sound _ _) fun v => .update fun _ _ _ h =>
      (h.setSreg n v).shadow)
  | xchgRmReg =>
    exact runOp_sound h hs (.get_bind fun _ => .bind (readLoc_sound _ _) fun _ => .update fun _ _ _ h =>
      (h.writeLoc _ _ _).setReg _ _ _)
  | xlat => exact runOp_sound h hs (.bind (load_sound .byte _ _) fun _ => .update fun _ _ _ h => h.setReg8 .al _)
  | les | lds => exact loadPointer_sound _ _ _ hs (runOp_next.1 h)
  | lahf | setalc => exact next_sound h (hs.setReg8 _ _)
  | inImm | inDx => exact inPort_sound _ _ hs (runOp_next.1 h)
  | esc x l => exact execEsc_sound x l hs h
  | nop | lea | cbw | cwd | xchgAx | sahf | outImm | outDx | cmc | clc | stc | cld | std | cli | sti =>
    exact next_sound h (hs.congr rfl)
  | hlt => exact next_sound h (.setHalted hwait hs)
  | wait => exact execWait_sound hhalt hs h
  | jo | jno | jb | jnb | jz | jnz | jbe | jnbe | js | jns | jp | jnp | jl | jnl | jle | jnle | jcxz =>
    exact next_sound h (hs.jumpShortIf _ _)
  | loopne | loope | loop => exact next_sound h (hs.loopIf _ _)
  | jmpNear | jmpShort => exact next_sound h (hs.jump _)
  | jmpFar => exact next_sound h (hs.jumpFar _ _)
  | jmpRm => exact runOp_sound h hs (.bind (readRM_sound _ _) fun _ => .update fun _ _ _ h => h.jump _)
  | jmpFarMem => exact runOp_sound h hs (.bind (readPair_sound _) fun _ => .update fun _ _ _ h => h.jumpFar _ _)
  | callNear => exact next_sound h ((hs.push16 _).jump _)
  | callRm => exact runOp_sound h hs (.bind (readRM_sound _ _) fun _ => .update fun _ _ _ h => (h.push16 _).jump _)
  | callFar => exact next_sound h (hs.callFar _ _)
  | callFarMem => exact runOp_sound h hs (.bind (readPair_sound _) fun _ => .update fun _ _ _ h => h.callFar _ _)
  | retImm | ret => exact returnNear_sound _ hs (runOp_next.1 h)
  | retfImm | retf => exact returnFar_sound _ hs (runOp_next.1 h)
  | enter => exact enterOp_sound _ _ hs (runOp_next.1 h)
  | leave => exact runOp_sound h hs (.bind (.quiet fun _ => rfl) fun _ => .bind pop16_sound fun _ => .quiet fun _ => rfl)
  | int3 | intN => exact interrupt_sound _ _ hs (runOp_next.1 h)
  | into => exact execInto_sound hs h
  | iret => exact interruptReturn_sound hs (runOp_next.1 h)
  | bound => exact execBound_sound hs h
  | overrideEs | overrideCs | overrideSs | overrideDs | lock | repne | rep => cases hpre
  | movs | cmps | scas | lods | stos | ins | outs => cases hstr
  | _ => cases h

end

end Sys2Proof.Machine

/-! ## What a fetch and a step keep of a legal state -/

namespace Sys2Proof.Machine

section
variable {p : Prefixes} {r : Option Instr} {s t : State}

/-! ### Fetching -/

theorem fetchByte_kept {b : Byte} (h : fetchByte s = .ok (b, t)) : t.kept = s.kept := by
  cases hk : kindAt s.cfg.memMap s.codeAddr with
  | ram =>
    obtain ⟨d, rfl, -⟩ := fetchByte_ok (.inl hk) h
    rfl
  | rom =>
    obtain ⟨d, rfl, -⟩ := fetchByte_ok (.inr hk) h
    rfl
  | absent | device =>
    simp only [fetchByte, hk] at h
    split at h
    · rename_i hread
      obtain ⟨a, e, d, rfl⟩ := readByte_ok hread
      cases h
      rfl
    · cases h

theorem codeWindow_kept (n : Nat) : ∀ {s : State}, ∀ q ∈ codeWindow n s, q.2.kept = s.kept := by
  induction n with
  | zero =>
    intro s q hq
    cases hq
  | succ n ih =>
    intro s q hq
    rw [codeWindow] at hq
    split at hq
    · cases hq
    · rename_i hf
      have hkept := fetchByte_kept hf
      rcases List.mem_cons.1 hq with rfl | hq
      · exact hkept
      · exact (ih q hq).trans hkept

theorem stateAfter_kept {w : List (Byte × State)} (hw : ∀ q ∈ w, q.2.kept = s.kept) : (stateAfter s w).kept = s.kept := by
  unfold stateAfter
  split
  · rename_i hlast
    exact hw _ (List.mem_of_mem_getLast? hlast)
  · rfl

/-- A fetch changes IP and the environment only (30_encoding.md R121; 20_memory.md R91). -/
theorem fetch_kept {i : Instr} (h : fetch s = .ok (i, t)) : t.kept = s.kept := by
  simp only [fetch] at h
  split at h <;> cases h
  exact stateAfter_kept fun q hq => codeWindow_kept maxLength q (List.mem_of_mem_take hq)

/-! ### A step -/

/-- The bytes of R140 leave `State.pfx` active and all else as it is (30_encoding.md R140). -/
theorem exec_of_isPrefix {i : Instr} (hpre : isPrefix i = true) (h : exec i s = .next t) :
    ∃ q : Prefixes, q.active = true ∧ t = s.setPfx q := by
  cases i with
  | overrideEs | overrideCs | overrideSs | overrideDs | lock | repne | rep =>
    cases h
    exact ⟨_, rfl, rfl⟩
  | _ => cases hpre

/-- Every string instruction is one of `stringInstr` over a sound element. -/
theorem exec_of_isString {i : Instr} (hstr : isString i = true) (h : exec i s = .next t) :
    ∃ c element, Op.Sound element ∧ stringInstr i c element s = .ok ((), t) := by
  cases i with
  | movs w => exact ⟨_, _, movsElement_sound w, runOp_next.1 h⟩
  | cmps w => exact ⟨_, _, cmpsElement_sound w, runOp_next.1 h⟩
  | scas w => exact ⟨_, _, scasElement_sound w, runOp_next.1 h⟩
  | lods w => exact ⟨_, _, lodsElement_sound w, runOp_next.1 h⟩
  | stos w => exact ⟨_, _, stosElement_sound w, runOp_next.1 h⟩
  | ins w => exact ⟨_, _, insElement_sound w, runOp_next.1 h⟩
  | outs w => exact ⟨_, _, outsElement_sound w, runOp_next.1 h⟩
  | _ => cases hstr

/-- An instruction outside `isPrefix` that leaves no repetition discards the prefixes read. -/
theorem settle_legal {i : Instr} (hpre : isPrefix i = false) (tf : Bool) (h : s.Sound p none) : (settle i tf s).Legal := by
  simp only [settle, hpre, h.repeating]
  exact State.Sound.legal (p := .none) ⟨h.mem_wf, h.coherent, h.one_hold, rfl, h.repeating⟩ fun _ => rfl

/-- Elements of a string instruction remain under F2h or F3h, with CX not 0 (43_string.md R345). -/
theorem settle_legal_repeating {i : Instr} (hpre : isPrefix i = false) (hstr : isString i = true) (tf : Bool) (hp : p.Legal)
    (hrep : p.rep.isSome = true) (h : s.Sound p (some i)) (hcx : s.regs.cx ≠ 0) : (settle i tf s).Legal := by
  simp only [settle, hpre, h.repeating]
  refine ⟨h.mem_wf, h.one_hold, fun j hj => ?_, h.coherent, h.pfx.symm ▸ hp⟩
  obtain rfl : i = j := Option.some.inj (h.repeating.symm.trans hj)
  exact ⟨hstr, (congrArg (·.rep.isSome) h.pfx).trans hrep, hcx⟩

theorem isPrefix_of_isString {i : Instr} (h : isString i = true) : isPrefix i = false := by
  cases i with
  | movs | cmps | scas | lods | stos | ins | outs => rfl
  | _ => cases h

/-- From a sound state without a hold, where a repetition in progress is of a string instruction under F2h or F3h. -/
theorem runInstr_legal {i : Instr} (hhalt : s.halted = false) (hwait : s.waiting = false) (hp : p.Legal) (hs : s.Sound p r)
    (hr : r = none ∨ (isString i = true ∧ p.rep.isSome = true)) (h : runInstr i s = .next t) : t.Legal := by
  unfold runInstr at h
  split at h <;> cases h
  rename_i u hexec
  cases hstr : isString i with
  | true =>
    have hpre := isPrefix_of_isString hstr
    obtain ⟨c, element, hel, hrun⟩ := exec_of_isString hstr hexec
    obtain ⟨hnone, hu⟩ | ⟨hrep, hu | ⟨hu, hcx⟩⟩ := stringInstr_sound hel hs hrun
    · obtain rfl | ⟨-, hsome⟩ := hr
      · exact settle_legal hpre _ hu
      · simp [hnone] at hsome
    · exact settle_legal hpre _ hu
    · exact settle_legal_repeating hpre hstr _ hp hrep hu hcx
  | false =>
    obtain rfl : r = none := hr.resolve_right (by simp [hstr])
    cases hpre : isPrefix i with
    | true =>
      obtain ⟨q, hq, rfl⟩ := exec_of_isPrefix hpre hexec
      simp only [settle, hpre]
      exact State.Sound.legal (p := q) ⟨hs.mem_wf, hs.coherent, hs.one_hold, rfl, hs.repeating⟩ fun hn => by simp [hq] at hn
    | false => exact settle_legal hpre _ (exec_sound hpre hstr hhalt hwait hs hexec)

theorem fetchAndRun_legal (hhalt : s.halted = false) (hwait : s.waiting = false) (hp : p.Legal) (hs : s.Sound p none)
    (h : fetchAndRun s = .next t) : t.Legal := by
  have hstart : (if s.pfx.active then s else s.setStart s.ip).kept = s.kept := by split <;> rfl
  unfold fetchAndRun at h
  dsimp only at h
  split at h
  · cases h
  · cases h
  · rename_i i u hfetch
    have hkept : u.kept = s.kept := (fetch_kept hfetch).trans hstart
    obtain ⟨-, -, -, hh, hw, -, -⟩ := State.kept_eq_iff.1 hkept
    split at h
    · cases h
    · cases h
    · exact runInstr_legal (hh.trans hhalt) (hw.trans hwait) hp (hs.congr hkept) (.inl rfl) h

theorem execute_legal (hs : s.Legal) (h : execute s = .next t) : t.Legal := by
  unfold execute at h
  split at h
  · cases h
    exact hs.congr rfl rfl
  · rename_i hhalt
    have hhalt : s.halted = false := by simpa using hhalt
    split at h
    · cases h
      split
      · exact ⟨hs.mem_wf, nofun, hs.repeats, hs.coherent, hs.prefixes⟩
      · exact hs.congr rfl rfl
    · rename_i hwait
      have hwait : s.waiting = false := by simpa using hwait
      split at h
      · rename_i i hrep
        obtain ⟨hstr, hpfx, -⟩ := hs.repeats i hrep
        exact runInstr_legal hhalt hwait hs.prefixes hs.sound (.inr ⟨hstr, hpfx⟩) h
      · rename_i hrep
        exact fetchAndRun_legal hhalt hwait hs.prefixes (hrep ▸ hs.sound) h

/-- An accepted interrupt ends the holds and leaves no instruction in progress. -/
theorem acceptInterrupt_legal {n : Byte} {after : Option Bool} (hs : s.Legal) (h : acceptInterrupt n after s = .ok ((), t)) :
    t.Legal := by
  obtain ⟨u, hint, rfl⟩ := acceptInterrupt_ok h
  have hu := interrupt_sound n _ hs.sound hint
  exact State.Sound.legal (p := .none) ⟨hu.mem_wf, hu.coherent, hu.one_hold, rfl, rfl⟩ fun _ => rfl

theorem acceptNmi_legal {tf : Bool} (hs : s.Legal) (h : acceptNmi tf s = .ok ((), t)) : t.Legal := by
  obtain ⟨u, hnmi, hdone, htrap⟩ := acceptNmi_ok h
  have hu := acceptInterrupt_legal hs hnmi
  cases tf with
  | false => exact hdone rfl ▸ hu
  | true => exact acceptInterrupt_legal hu (htrap rfl)

theorem atBoundary_legal {tf : Bool} (hs : s.Legal) (h : atBoundary tf s = .next t) : t.Legal := by
  unfold atBoundary at h
  split at h
  · exact execute_legal (hs.congr rfl rfl : (s.setIntInhibit false).Legal) h
  · split at h
    · exact acceptNmi_legal (hs.congr rfl rfl : (s.setNmiLatched false).Legal) (runOp_next.1 h)
    · split at h
      · exact acceptInterrupt_legal hs (runOp_next.1 h)
      · split at h
        · exact acceptInterrupt_legal hs (runOp_next.1 h)
        · exact execute_legal hs h

theorem resetCpu_legal (h : Memory.wf s.mem = true) : (resetCpu s).Legal :=
  State.Sound.legal (p := .none) ⟨h, fun _ => rfl, Bool.false_ne_true ∘ And.left, rfl, rfl⟩ fun _ => rfl

end

theorem sample_kept (s : State) : s.sample.kept = s.kept := by simp [State.kept]

/-- Settles O54, by the branches of a step: reset, the boundary, the holds, a repetition, a fetched instruction. -/
theorem legalKept : Obligations.LegalKept := by
  intro s t hs h
  have hsample : s.sample.Legal := hs.congr (sample_kept s) (by simp)
  simp only [step, cycle] at h
  split at h
  · cases h
    exact resetCpu_legal hsample.mem_wf
  · split at h
    · exact atBoundary_legal (hsample.congr rfl rfl : (s.sample.setBoundary none).Legal) h
    · exact execute_legal hsample h

end Sys2Proof.Machine

/-! ## Memory accesses: byte order, places, kinds of memory, and what a fetch sees -/

namespace Sys2Proof.Machine

section
variable {s t : State} {x y : Nat} {v lo hi : Byte} {a b : Word} {seg off : Word}

/-! ### Bytes and words of RAM and ROM -/

theorem byteAt_storeByte_same (h : kindAt s.cfg.memMap x = .ram) (v : Byte) : (s.storeByte x v).byteAt x = some v := by
  rw [State.byteAt, storeByte_mem, if_pos h, Memory.lookup_write_same]

theorem byteAt_storeByte_other (h : y ≠ x) (s : State) (v : Byte) : (s.storeByte x v).byteAt y = s.byteAt y :=
  storeByte_other s v h

/-- Both bytes of a word store, low byte first (20_memory.md R82). -/
theorem byteAt_storeBytes (hram : s.AllRam (s.accessBytes .word seg off)) (lo hi : Byte) :
    ((s.storeByte (byteAddr s.cfg.segWrap seg off 0) lo).storeByte (byteAddr s.cfg.segWrap seg off 1) hi).byteAt
      (byteAddr s.cfg.segWrap seg off 0) = some lo ∧
    ((s.storeByte (byteAddr s.cfg.segWrap seg off 0) lo).storeByte (byteAddr s.cfg.segWrap seg off 1) hi).byteAt
      (byteAddr s.cfg.segWrap seg off 1) = some hi := by
  have hlo : kindAt s.cfg.memMap (byteAddr s.cfg.segWrap seg off 0) = .ram := hram _ (by simp [State.accessBytes])
  have hhi : kindAt s.cfg.memMap (byteAddr s.cfg.segWrap seg off 1) = .ram := hram _ (by simp [State.accessBytes])
  refine ⟨?_, byteAt_storeByte_same (by rwa [storeByte_cfg]) hi⟩
  rw [byteAt_storeByte_other (byteAddr_ne _ _ _), byteAt_storeByte_same hlo]

theorem load_byte_eq (seg off : Word) (s : State) : load .byte seg off s = readByte (byteAddr s.cfg.segWrap seg off 0) s := rfl

/-- A byte access of RAM or ROM (20_memory.md R86, R91). -/
theorem load_byte_of_hold (h : s.AllHold (s.accessBytes .byte seg off))
    (hlo : s.byteAt (byteAddr s.cfg.segWrap seg off 0) = some lo) : load .byte seg off s = .ok (lo, s) :=
  (load_byte_eq seg off s).trans (readByte_ram (h _ (List.mem_singleton_self _)).1 hlo)

/-- A word read is two byte reads, the lower address first (20_memory.md R86). -/
theorem load_word_of_readBytes {u : State} (hlo : readByte (byteAddr s.cfg.segWrap seg off 0) s = .ok (lo, t))
    (hcfg : t.cfg = s.cfg) (hhi : readByte (byteAddr s.cfg.segWrap seg off 1) t = .ok (hi, u)) :
    load .word seg off s = .ok (hi ++ lo, u) := by
  rw [← hcfg] at hhi
  exact (Op.bind_of_ok (Op.get_run s)).trans ((Op.bind_of_ok hlo).trans ((Op.bind_of_ok (Op.get_run t)).trans (Op.bind_of_ok hhi)))

theorem load_word_of_hold (h : s.AllHold (s.accessBytes .word seg off))
    (hlo : s.byteAt (byteAddr s.cfg.segWrap seg off 0) = some lo)
    (hhi : s.byteAt (byteAddr s.cfg.segWrap seg off 1) = some hi) : load .word seg off s = .ok (hi ++ lo, s) :=
  load_word_of_readBytes (readByte_ram (h _ (by simp [State.accessBytes])).1 hlo) rfl
    (readByte_ram (h _ (by simp [State.accessBytes])).1 hhi)

/-- Settles O9: the reads of a place in registers, of a byte and of a word. -/
theorem ramReadsAreQuiet : Obligations.RamReadsAreQuiet :=
  fun _ _ _ _ _ _ _ => ⟨rfl, load_byte_of_hold, load_word_of_hold⟩

/-- A word read after stores to its two bytes of RAM. -/
theorem load_word_storeBytes (hram : s.AllRam (s.accessBytes .word seg off)) (lo hi : Byte) :
    load .word seg off ((s.storeByte (byteAddr s.cfg.segWrap seg off 0) lo).storeByte (byteAddr s.cfg.segWrap seg off 1) hi) =
      .ok (hi ++ lo, (s.storeByte (byteAddr s.cfg.segWrap seg off 0) lo).storeByte (byteAddr s.cfg.segWrap seg off 1) hi) := by
  obtain ⟨hlo, hhi⟩ := byteAt_storeBytes hram lo hi
  refine load_word_of_hold (fun y hy => ?_) (by simpa using hlo) (by simpa using hhi)
  simp only [State.accessBytes, storeByte_cfg] at hy ⊢
  refine ⟨.inl (hram y hy), ?_⟩
  obtain rfl | rfl : y = byteAddr s.cfg.segWrap seg off 0 ∨ y = byteAddr s.cfg.segWrap seg off 1 := by simpa using hy
  · rw [hlo]
    rfl
  · rw [hhi]
    rfl

/-- Settles O7: the two bytes lie at two addresses, so neither store hides the other. -/
theorem wordByteOrder : Obligations.WordByteOrder := by
  intro s seg off v b0 b1 hram
  obtain ⟨hlo, hhi⟩ := byteAt_storeBytes hram (lowByte v) (highByte v)
  exact ⟨hlo, hhi, load_word_storeBytes hram b0 b1⟩

/-! ### Places -/

theorem reg_setReg_same (s : State) (w : Width) (n : RegNum) (v : BitVec w.bits) : (s.setReg w n v).reg w n = v := by
  cases w with
  | byte => exact reg8_setReg8_same s n v
  | word => exact reg16_setReg16_same s n v

theorem highByte_append_lowByte (v : Word) : highByte v ++ lowByte v = v := by
  refine BitVec.eq_of_getLsbD_eq fun i hi => ?_
  simp only [highByte, lowByte, BitVec.getLsbD_append, BitVec.getLsbD_extractLsb']
  by_cases h : i < 8
  · simp [h]
  · simp [h, show i - 8 < 8 by omega, show 8 + (i - 8) = i by omega]

theorem load_store (w : Width) (hram : s.AllRam (s.accessBytes w seg off)) (v : BitVec w.bits) :
    load w seg off (s.store w seg off v) = .ok (v, s.store w seg off v) := by
  cases w with
  | byte =>
    have hk : kindAt s.cfg.memMap (byteAddr s.cfg.segWrap seg off 0) = .ram := hram _ (List.mem_singleton_self _)
    rw [load_byte_eq, store_cfg]
    exact readByte_ram (.inl (by rwa [store_cfg])) (byteAt_storeByte_same hk v)
  | word => exact (load_word_storeBytes hram _ _).trans (by rw [highByte_append_lowByte]; rfl)

theorem readLoc_writeLoc (w : Width) (l : Loc) (hram : s.AllRam (s.locBytes w l)) (v : BitVec w.bits) :
    readLoc w l (s.writeLoc w l v) = .ok (v, s.writeLoc w l v) := by
  cases l with
  | reg n => exact congrArg (fun u => Except.ok (u, s.setReg w n v)) (reg_setReg_same s w n v)
  | mem seg off => exact load_store w hram v

/-- A write of a place changes at most the general registers, memory, the trace and the bytes fetched ahead. -/
theorem writeLoc_eq (s : State) (w : Width) (l : Loc) (v : BitVec w.bits) :
    ∃ g m e q, s.writeLoc w l v = (((s.setRegs g).setMem m).setEvents e).setStale q := by
  cases l with
  | reg n =>
    obtain ⟨g, hg⟩ := setReg_eq s w n v
    exact ⟨g, s.mem, s.events, s.stale, hg⟩
  | mem seg off =>
    obtain ⟨m, e, q, hm⟩ := store_eq s w seg off v
    exact ⟨s.regs, m, e, q, hm⟩

/-- The word register that a place lies in, if any. -/
def Loc.regs (w : Width) : Loc → List RegNum
  | .reg n => [homeReg w n]
  | .mem _ _ => []

theorem Loc.not_mem_regs {w : Width} {l : Loc} {r : RegNum} (h : ∀ n, l = .reg n → r ≠ homeReg w n) : r ∉ l.regs w := by
  cases l with
  | reg n => simpa [Loc.regs] using h n rfl
  | mem seg off => simp [Loc.regs]

/-- The write of a place keeps to the register and the bytes of the place. -/
theorem writeLoc_keeps (s : State) (w : Width) (l : Loc) (v : BitVec w.bits) :
    Keeps { regs := l.regs w, stores := s.locBytes w l } false s (s.writeLoc w l v) :=
  (Keeps.refl _ false s).writeLoc (fun _ hl => hl ▸ List.mem_singleton_self _) (List.Subset.refl _) v

/-- Settles O8, from the frame of a write of a place. -/
theorem placeReadsBack : Obligations.PlaceReadsBack := by
  intro s w l v
  have hk := writeLoc_keeps s w l v
  refine ⟨fun hram => readLoc_writeLoc w l hram v, hk.mem, fun r hr => hk.regs r (Loc.not_mem_regs hr), ?_⟩
  obtain ⟨g, m, e, q, heq⟩ := writeLoc_eq s w l v
  exact ⟨by rw [heq]; rfl, by rw [heq]; rfl, by rw [heq]; rfl, hk.sameHidden rfl⟩

/-! ### Kinds of memory -/

theorem storeByte_dropped (h : kindAt s.cfg.memMap x = .rom ∨ kindAt s.cfg.memMap x = .absent) (v : Byte) :
    s.storeByte x v = s := by
  unfold State.storeByte
  obtain h | h := h <;> rw [h]

theorem storeByte_device (h : kindAt s.cfg.memMap x = .device) (v : Byte) :
    s.storeByte x v = s.setEvents (.memWrite x v :: s.events) := by
  unfold State.storeByte
  rw [h]
  rfl

theorem mayBePrefetched_iff (s : State) (x : Nat) : s.mayBePrefetched x = true ↔
    ∃ j, j < s.cfg.prefetchDepth.val ∧ x = phys s.segs.cs (s.ip + BitVec.ofNat 16 j) := by
  simp only [State.mayBePrefetched, List.any_eq_true, List.mem_range, beq_iff_eq, eq_comm (a := x)]

theorem storeByte_stale_ahead (hk : kindAt s.cfg.memMap x = .ram) (hj : s.mayBePrefetched x = true) (v : Byte) :
    (s.storeByte x v).stale = (x, s.byteAt x) :: s.stale := by
  rw [storeByte_stale, if_pos ⟨hk, hj⟩]
  rfl

theorem storeByte_stale_elsewhere (hj : ¬ s.mayBePrefetched x = true) (v : Byte) : (s.storeByte x v).stale = s.stale := by
  rw [storeByte_stale, if_neg fun h => hj h.2]

theorem readByte_absent (h : kindAt s.cfg.memMap x = .absent) : readByte x s = .ok (lowByte s.drawn, s.drew) := by
  unfold readByte
  rw [h]
  rfl

theorem readByte_device {rest : List Word} (h : kindAt s.cfg.memMap x = .device) (ha : s.answers = a :: rest) :
    readByte x s = .ok (lowByte a, (s.setAnswers rest).setEvents (.memRead x (lowByte a) :: s.events)) := by
  have hans : answer s = .ok (a, s.setAnswers rest) := by
    unfold answer
    rw [ha]
  unfold readByte
  rw [h]
  exact Op.bind_of_ok hans

theorem readByte_noValue (h : kindAt s.cfg.memMap x = .ram) (hx : s.byteAt x = none) :
    readByte x s = .error (.fault (.noValue x)) := by
  unfold readByte
  simp only [h, show Memory.lookup s.mem x = none from hx]

theorem store_word_device (h : ∀ y ∈ s.accessBytes .word seg off, kindAt s.cfg.memMap y = .device) (v : Word) :
    s.store .word seg off v = s.setEvents (.memWrite (byteAddr s.cfg.segWrap seg off 1) (highByte v) ::
      .memWrite (byteAddr s.cfg.segWrap seg off 0) (lowByte v) :: s.events) := by
  have hlo : kindAt s.cfg.memMap (byteAddr s.cfg.segWrap seg off 0) = .device := h _ (by simp [State.accessBytes])
  have hhi : kindAt s.cfg.memMap (byteAddr s.cfg.segWrap seg off 1) = .device := h _ (by simp [State.accessBytes])
  rw [State.store, storeByte_device hlo, storeByte_device (by rwa [State.setEvents_cfg])]
  rfl

theorem load_word_device {rest : List Word} (h : ∀ y ∈ s.accessBytes .word seg off, kindAt s.cfg.memMap y = .device)
    (ha : s.answers = a :: b :: rest) : load .word seg off s = .ok (lowByte b ++ lowByte a,
      (s.setAnswers rest).setEvents (.memRead (byteAddr s.cfg.segWrap seg off 1) (lowByte b) ::
        .memRead (byteAddr s.cfg.segWrap seg off 0) (lowByte a) :: s.events)) :=
  load_word_of_readBytes (readByte_device (h _ (by simp [State.accessBytes])) ha) rfl
    (readByte_device (h _ (by simp [State.accessBytes])) rfl)

/-! ### What a fetch sees -/

/-- A fetch of RAM or ROM goes on with the byte it picks (20_memory.md R104). -/
theorem fetchByte_of_pick_some (hk : kindAt s.cfg.memMap s.codeAddr = .ram ∨ kindAt s.cfg.memMap s.codeAddr = .rom)
    (hp : pickFetched s.codeAddr (s.byteAt s.codeAddr) s.stale s = (some v, t)) : fetchByte s = .ok (v, t.setIp (s.ip + 1)) := by
  rw [State.byteAt] at hp
  obtain hk | hk := hk <;> simp only [fetchByte, hk, hp]

/-- It stops where that is no value (entry 16). -/
theorem fetchByte_of_pick_none (hk : kindAt s.cfg.memMap s.codeAddr = .ram ∨ kindAt s.cfg.memMap s.codeAddr = .rom)
    (hp : pickFetched s.codeAddr (s.byteAt s.codeAddr) s.stale s = (none, t)) :
    fetchByte s = .error (.fault (.noCode s.codeAddr)) := by
  rw [State.byteAt] at hp
  obtain hk | hk := hk <;> simp only [fetchByte, hk, hp]

/-- One kept byte of the address fetched: a free bit says whether the store is seen. -/
theorem pickFetched_single (x : Nat) (current old : Option Byte) (s : State) :
    pickFetched x current [(x, old)] s = (if s.drawn.getLsbD 0 then old else current, s.drew) := by
  simp only [pickFetched, if_true]
  split <;> rfl

theorem interrupt_stale {n : Byte} {ret : Word} (h : interrupt n ret s = .ok ((), t)) : t.stale = [] := by
  obtain ⟨ip, cs, r, u, -, -, rfl⟩ := interrupt_ok h
  rfl

theorem interruptReturn_stale (h : interruptReturn s = .ok ((), t)) : t.stale = [] := by
  obtain ⟨ip, cs, fl, s1, s2, s3, -, -, -, rfl⟩ := interruptReturn_ok h
  rfl

end

/-- Settles O10, kind by kind. -/
theorem memoryKinds : Obligations.MemoryKinds := by
  intro s t x v a b rest seg off old
  refine ⟨fun h => storeByte_dropped h v, fun h => storeByte_device h v,
    fun h => ⟨byteAt_storeByte_same h v, fun hj => ?_, fun hj => ?_⟩, readByte_absent, readByte_device, readByte_noValue,
    fun h => ⟨store_word_device h a, load_word_device h⟩,
    fun hk => ⟨fun hx => ?_, fun hx => ?_, fun h => ?_⟩, rfl, rfl, fun h => interrupt_stale (runOp_next.1 h),
    fun h => interruptReturn_stale (runOp_next.1 h)⟩
  · exact storeByte_stale_ahead h ((mayBePrefetched_iff s x).2 hj) v
  · exact storeByte_stale_elsewhere (fun hm => hj ((mayBePrefetched_iff s x).1 hm)) v
  · have hpick := pickFetched_none hx (s.byteAt s.codeAddr) s
    split <;> rename_i hb
    · exact fetchByte_of_pick_some hk (hpick.trans (congrArg (·, s) hb))
    · exact fetchByte_of_pick_none hk (hpick.trans (congrArg (·, s) hb))
  · have hpick := pickFetched_single s.codeAddr (s.byteAt s.codeAddr) old s
    rw [← hx] at hpick
    split <;> rename_i hb
    · exact fetchByte_of_pick_some hk (hpick.trans (congrArg (·, s.drew) hb))
    · exact fetchByte_of_pick_none hk (hpick.trans (congrArg (·, s.drew) hb))
  · obtain ⟨d, -, hseen⟩ := fetchByte_ok hk h
    exact hseen

end Sys2Proof.Machine

/-! ## The decoder: the fields of a byte, and what each reader of a field answers -/

namespace Sys2Proof

open Machine (lowByte highByte wordOf lowByte_wordOf highByte_wordOf highByte_append_lowByte)

variable {α β : Type}

/-! ### The fields of a byte -/

@[simp] theorem RegNum.ofBits_toBits (r : RegNum) : RegNum.ofBits r.toBits = r := by cases r <;> rfl

@[simp] theorem RegNum.toBits_ofBits : ∀ b : BitVec 3, (RegNum.ofBits b).toBits = b := by decide

@[simp] theorem Base.ofBits_toBits (b : Base) : Base.ofBits b.toBits = b := by cases b <;> rfl

@[simp] theorem Base.toBits_ofBits : ∀ b : BitVec 3, (Base.ofBits b).toBits = b := by decide

/-- The row that mod = 00 gives to the direct address is BP's (R131). -/
theorem Base.toBits_eq_six_iff (b : Base) : b.toBits = 6 ↔ b = .bp := by cases b <;> decide

@[simp] theorem modRMByte_mode : ∀ (m : BitVec 2) (x y : BitVec 3), (modRMByte m x y).extractLsb' 6 2 = m := by decide

@[simp] theorem modRMByte_reg : ∀ (m : BitVec 2) (x y : BitVec 3), (modRMByte m x y).extractLsb' 3 3 = x := by decide

@[simp] theorem modRMByte_rm : ∀ (m : BitVec 2) (x y : BitVec 3), (modRMByte m x y).extractLsb' 0 3 = y := by decide

/-- Every byte is a ModR/M byte (R130). -/
theorem exists_modRMByte (b : Byte) : ∃ (m : BitVec 2) (r : RegNum) (y : BitVec 3), b = modRMByte m r.toBits y := by
  have fields : ∀ b : Byte, b = modRMByte (b.extractLsb' 6 2) (b.extractLsb' 3 3) (b.extractLsb' 0 3) := by decide
  exact ⟨_, RegNum.ofBits (b.extractLsb' 3 3), _, by rw [RegNum.toBits_ofBits]; exact fields b⟩

theorem byte_eq_ofNat {b : Byte} {n : Nat} (h : b.toNat = n) : b = BitVec.ofNat 8 n := by rw [← h]; simp

theorem bitVec3_cases : ∀ t : BitVec 3, t = 0 ∨ t = 1 ∨ t = 2 ∨ t = 3 ∨ t = 4 ∨ t = 5 ∨ t = 6 ∨ t = 7 := by decide

/-! ### The parts of an encoding -/

section
open Encoder

@[simp] theorem Encoder.opW_byte (op : Byte) : opW op .byte = op := rfl

@[simp] theorem Encoder.opW_word (op : Byte) : opW op .word = op ||| 1 := rfl

@[simp] theorem Encoder.immWidth_ib (b : Byte) : immWidth (.ib b) = .byte := rfl

@[simp] theorem Encoder.immWidth_iw (v : Word) : immWidth (.iw v) = .word := rfl

@[simp] theorem Encoder.imm_ib (b : Byte) : Encoder.imm (.ib b) = [b] := rfl

@[simp] theorem Encoder.imm_iw (v : Word) : Encoder.imm (.iw v) = Encoder.word v := rfl

theorem modRM_reg (l r : RegNum) : modRM l (.reg r) = [opR (modRMByte 3 l.toBits 0) r] := by
  cases l <;> cases r <;> rfl

end

@[simp] theorem Level.includes_l8086 (lvl : Level) : lvl.includes .l8086 = true := by cases lvl <;> rfl

@[simp] theorem Level.includes_lx86 (lvl : Level) : lvl.includes .lx86 = true ↔ lvl = .lx86 := by cases lvl <;> decide

/-! ### Readers of fields -/

namespace Decoder

@[simp] theorem pure_eq_ok {a b : α} {bs rest : List Byte} :
    (pure a : Decoder α) bs = .ok (b, rest) ↔ a = b ∧ bs = rest := by
  simp [pure, StateT.pure, Except.pure]

theorem bind_eq_ok {d : Decoder α} {f : α → Decoder β} {bs rest : List Byte} {b : β} :
    (d >>= f) bs = .ok (b, rest) ↔ ∃ a mid, d bs = .ok (a, mid) ∧ f a mid = .ok (b, rest) := by
  change (d bs >>= fun p => f p.1 p.2) = _ ↔ _
  cases h : d bs with
  | error e => simp [bind, Except.bind]
  | ok p =>
    obtain ⟨a, mid⟩ := p
    simp [bind, Except.bind]

@[simp] theorem map_eq_ok {d : Decoder α} {g : α → β} {bs rest : List Byte} {b : β} :
    (g <$> d) bs = .ok (b, rest) ↔ ∃ a, d bs = .ok (a, rest) ∧ g a = b := by
  simp only [map_eq_pure_bind, bind_eq_ok, pure_eq_ok]
  exact ⟨fun ⟨a, _, ha, hb, hrest⟩ => ⟨a, hrest ▸ ha, hb⟩, fun ⟨a, ha, hb⟩ => ⟨a, rest, ha, hb, rfl⟩⟩

@[simp] theorem refuse_ne_ok {e : DecodeError} {bs : List Byte} {p : α × List Byte} :
    (refuse e : Decoder α) bs ≠ .ok p :=
  nofun

/-- `d` answers the values of `P`, each from exactly the bytes that `enc` gives it. -/
def Exact (d : Decoder α) (enc : α → List Byte) (P : α → Prop) : Prop :=
  ∀ bs a rest, d bs = .ok (a, rest) ↔ P a ∧ bs = enc a ++ rest

theorem exact_byte : Exact byte (fun b => [b]) fun _ => True := by
  rintro (_ | ⟨b, bs⟩) a rest <;> simp [byte]

theorem exact_word : Exact word Encoder.word fun _ => True := by
  intro bs v rest
  rw [true_and]
  constructor
  · match bs with
    | [] | [_] => nofun
    | lo :: hi :: bs =>
      rintro ⟨⟩
      rw [Encoder.word, lowByte_wordOf, highByte_wordOf]
      rfl
  · rintro rfl
    change Except.ok (highByte v ++ lowByte v, rest) = _
    rw [highByte_append_lowByte]

theorem exact_imm (w : Width) : Exact (imm w) Encoder.imm fun j => Encoder.immWidth j = w := by
  intro bs j rest
  cases w <;> cases j <;> simp [imm, exact_byte _ _ _, exact_word _ _ _, Encoder.imm, Encoder.immWidth]

theorem exact_memOnly (rm : RM) : Exact (memOnly rm) (fun _ => []) fun m => rm = .mem m := by
  intro bs m rest
  cases rm <;> simp [memOnly]

theorem exact_sreg (r : RegNum) : Exact (sreg r) (fun _ => []) fun sr => r = Encoder.sregField sr := by
  intro bs sr rest
  cases r <;> cases sr <;> simp [sreg, Encoder.sregField]

/-- Mode by mode (R131): the bytes read are those of the operand, which is no BP alone. -/
theorem modRM_ok {bs rest : List Byte} {r : RegNum} {rm : RM} (h : modRM bs = .ok ((r, rm), rest)) :
    rm.wf = true ∧ bs = Encoder.modRM r rm ++ rest := by
  rw [modRM, bind_eq_ok] at h
  obtain ⟨b, mid, hb, h⟩ := h
  obtain ⟨-, rfl⟩ := (exact_byte ..).1 hb
  obtain ⟨m, x, y, rfl⟩ := exists_modRMByte b
  simp only [modRMByte_mode, modRMByte_reg, modRMByte_rm, RegNum.ofBits_toBits] at h
  have modes : ∀ m : BitVec 2, m = 0 ∨ m = 1 ∨ m = 2 ∨ m = 3 := by decide
  obtain rfl | rfl | rfl | rfl := modes m
  · by_cases hy : y = 6
    · subst hy
      obtain ⟨off, rfl, rfl, rfl⟩ := by simpa [exact_word _ _ _] using h
      exact ⟨rfl, rfl⟩
    · obtain ⟨⟨rfl, rfl⟩, rfl⟩ : (_ ∧ _) ∧ _ := by simpa [show y ≠ 6#3 from hy] using h
      have hbp : Base.ofBits y ≠ .bp := by rwa [Ne, ← Base.toBits_eq_six_iff, Base.toBits_ofBits]
      simp [RM.wf, MemEA.wf, Encoder.modRM, hbp]
  · obtain ⟨d, rfl, rfl, rfl⟩ := by simpa [exact_byte _ _ _] using h
    simp [RM.wf, MemEA.wf, Encoder.modRM]
  · obtain ⟨d, rfl, rfl, rfl⟩ := by simpa [exact_word _ _ _] using h
    simp [RM.wf, MemEA.wf, Encoder.modRM]
  · obtain ⟨⟨rfl, rfl⟩, rfl⟩ : (_ ∧ _) ∧ _ := by simpa using h
    simp [RM.wf, Encoder.modRM]

theorem modRM_encode (r : RegNum) {rm : RM} (h : rm.wf = true) (rest : List Byte) :
    modRM (Encoder.modRM r rm ++ rest) = .ok ((r, rm), rest) := by
  rw [modRM, bind_eq_ok]
  simp only [exact_byte _ _ _]
  cases rm with
  | reg y => exact ⟨_, _, ⟨trivial, rfl⟩, by simp⟩
  | mem m =>
    cases m with
    | direct off => exact ⟨_, _, ⟨trivial, rfl⟩, by simp [exact_word _ _ _, Encoder.word]⟩
    | base b =>
      have hb : b.toBits ≠ 6#3 := mt b.toBits_eq_six_iff.1 (bne_iff_ne.1 h)
      exact ⟨_, _, ⟨trivial, rfl⟩, by simp [hb]⟩
    | disp8 b d => exact ⟨_, _, ⟨trivial, rfl⟩, by simp [exact_byte _ _ _]⟩
    | disp16 b d => exact ⟨_, _, ⟨trivial, rfl⟩, by simp [exact_word _ _ _, Encoder.word]⟩

theorem exact_modRM : Exact modRM (fun p => Encoder.modRM p.1 p.2) fun p => p.2.wf = true := by
  rintro bs ⟨r, rm⟩ rest
  constructor
  · exact modRM_ok
  · rintro ⟨h, rfl⟩
    exact modRM_encode r h rest

theorem get_bind_run {f : List Byte → Decoder α} {bs : List Byte} : (get >>= f) bs = f bs bs := rfl

theorem set_bind_run {f : PUnit → Decoder α} {bs cs : List Byte} : ((set cs : Decoder PUnit) >>= f) bs = f () cs := rfl

/-! ### ESC at level LX86 -/

/-- The decoder's x87 rows are the model's list of named ESC encodings (R443). -/
theorem x87_eq_none_iff (t : BitVec 3) (l : RegNum) (rm : RM) : x87 t l rm = none ↔ namedX87 t l.toBits rm = false := by
  cases rm with
  | mem m =>
    obtain rfl | rfl | rfl | rfl | rfl | rfl | rfl | rfl := bitVec3_cases t <;> cases l <;>
      simp [x87, namedX87, RegNum.toBits]
  | reg r =>
    obtain rfl | rfl | rfl | rfl | rfl | rfl | rfl | rfl := bitVec3_cases t <;> cases l <;> cases r <;>
      decide

theorem x87_sound (t : BitVec 3) (l : RegNum) {rm : RM} {i : Instr} (h : rm.wf = true) (hi : x87 t l rm = some i) :
    (i.level = .lx86 ∧ i.operandsWf .lx86 = true) ∧ (0xD8 ||| t.setWidth 8) :: Encoder.modRM l rm = encode i := by
  generalize ht : t.toNat = k at *
  obtain rfl : t = BitVec.ofNat 3 k := by rw [← ht]; simp
  cases rm with
  | mem m =>
    simp only [x87, ht] at hi
    split at hi <;> cases hi <;> exact ⟨⟨rfl, h⟩, rfl⟩
  | reg r =>
    simp only [x87, ht] at hi
    split at hi <;> cases hi <;> exact ⟨⟨rfl, rfl⟩, by rw [modRM_reg]; rfl⟩

/-! ### 66h, F2h and F3h at level LX86: the longest row wins (R165) -/

section
variable {alone : Instr} {rows1 rows0F rows0F38 rows0F3A : Nat → Option (Decoder Instr)} {d : Decoder Instr} {b : Byte}
  {bs : List Byte}

theorem opcodeSelecting_row0F (h1 : rows1 0x0F = none) (h : rows0F b.toNat = some d) :
    opcodeSelecting alone rows1 rows0F rows0F38 rows0F3A (0x0F :: b :: bs) = d bs := by
  rw [opcodeSelecting, get_bind_run]
  simp [h1, h, set_bind_run]

theorem opcodeSelecting_row0F38 (h1 : rows1 0x0F = none) (h0F : rows0F 0x38 = none) (h : rows0F38 b.toNat = some d) :
    opcodeSelecting alone rows1 rows0F rows0F38 rows0F3A (0x0F :: 0x38 :: b :: bs) = d bs := by
  rw [opcodeSelecting, get_bind_run]
  simp [h1, h0F, h, set_bind_run]

theorem opcodeSelecting_row0F3A (h1 : rows1 0x0F = none) (h0F : rows0F 0x3A = none) (h : rows0F3A b.toNat = some d) :
    opcodeSelecting alone rows1 rows0F rows0F38 rows0F3A (0x0F :: 0x3A :: b :: bs) = d bs := by
  rw [opcodeSelecting, get_bind_run]
  simp [h1, h0F, h, set_bind_run]

end

end Decoder

end Sys2Proof

/-! ## What the decoder answers is well-formed, and is encoded by the bytes read

`Sound` speaks of a reader that has some bytes behind it. Each reader of a field has one rule for it, and each table of the opcode
map is a case split over its rows, where the rules leave the encoding to compare. The rules are for `>>=`, so `bind_pure_comp` is
off where they apply; `encode` and its like have 350 cases, so they unfold by `eq_def`, not by an equation per case. -/

namespace Sys2Proof

namespace Decoder

variable {α : Type}

/-- After the bytes `pre`, `d` answers well-formed instructions of `lvl` only, and each from the bytes that encode it. -/
def Sound (lvl : Level) (pre : List Byte) (d : Decoder Instr) : Prop :=
  ∀ bs i rest, d bs = .ok (i, rest) → i.wf lvl = true ∧ pre ++ bs = encode i ++ rest

/-! ### The rules -/

section
variable {lvl : Level} {pre : List Byte} {d : Decoder α} {enc : α → List Byte} {P : α → Prop}
  {f : α → Decoder Instr}

@[simp] theorem sound_pure {i : Instr} : Sound lvl pre (pure i) ↔
    (lvl.includes i.level = true ∧ i.operandsWf lvl = true) ∧ pre = encode i := by
  rw [← Bool.and_eq_true, ← Instr.wf]
  constructor
  · intro h
    simpa using h [] i [] rfl
  · rintro ⟨hwf, rfl⟩ bs j rest h
    obtain ⟨rfl, rfl⟩ := pure_eq_ok.1 h
    exact ⟨hwf, rfl⟩

@[simp] theorem sound_refuse {e : DecodeError} : Sound lvl pre (refuse e) := fun _ _ _ h => absurd h refuse_ne_ok

theorem Exact.sound_bind (hd : Exact d enc P) :
    Sound lvl pre (d >>= f) ↔ ∀ a, P a → Sound lvl (pre ++ enc a) (f a) := by
  constructor
  · intro h a ha bs i rest hf
    have := h (enc a ++ bs) i rest (bind_eq_ok.2 ⟨a, bs, (hd ..).2 ⟨ha, rfl⟩, hf⟩)
    rwa [← List.append_assoc] at this
  · intro h bs i rest hf
    obtain ⟨a, mid, hda, hfa⟩ := bind_eq_ok.1 hf
    obtain ⟨ha, rfl⟩ := (hd ..).1 hda
    rw [← List.append_assoc]
    exact h a ha mid i rest hfa

@[simp] theorem sound_byte {f : Byte → Decoder Instr} :
    Sound lvl pre (byte >>= f) ↔ ∀ b, Sound lvl (pre ++ [b]) (f b) := by
  simp [exact_byte.sound_bind]

@[simp] theorem sound_word {f : Word → Decoder Instr} :
    Sound lvl pre (word >>= f) ↔ ∀ v, Sound lvl (pre ++ Encoder.word v) (f v) := by
  simp [exact_word.sound_bind]

@[simp] theorem sound_imm_byte {f : Imm → Decoder Instr} :
    Sound lvl pre (imm .byte >>= f) ↔ ∀ b, Sound lvl (pre ++ [b]) (f (.ib b)) := by
  rw [(exact_imm _).sound_bind]
  exact ⟨fun h b => h (.ib b) rfl, fun h => fun | .ib b, _ => h b⟩

@[simp] theorem sound_imm_word {f : Imm → Decoder Instr} :
    Sound lvl pre (imm .word >>= f) ↔ ∀ v, Sound lvl (pre ++ Encoder.word v) (f (.iw v)) := by
  rw [(exact_imm _).sound_bind]
  exact ⟨fun h v => h (.iw v) rfl, fun h => fun | .iw v, _ => h v⟩

@[simp] theorem sound_modRM {f : RegNum × RM → Decoder Instr} :
    Sound lvl pre (modRM >>= f) ↔ ∀ r rm, rm.wf = true → Sound lvl (pre ++ Encoder.modRM r rm) (f (r, rm)) := by
  rw [exact_modRM.sound_bind, Prod.forall]

@[simp] theorem sound_memOnly {rm : RM} {f : MemEA → Decoder Instr} :
    Sound lvl pre (memOnly rm >>= f) ↔ ∀ m, rm = .mem m → Sound lvl pre (f m) := by
  simp [(exact_memOnly rm).sound_bind]

/-- The operand of a memory-only instruction. -/
@[simp] theorem forall_memory_operand {p : RM → MemEA → Prop} :
    (∀ rm : RM, rm.wf = true → ∀ m, rm = .mem m → p rm m) ↔ ∀ m : MemEA, m.wf = true → p (.mem m) m :=
  ⟨fun h m hm => h (.mem m) hm m rfl, by rintro h rm hm m rfl; exact h m hm⟩

@[simp] theorem sound_sreg {r : RegNum} {f : SReg → Decoder Instr} :
    Sound lvl pre (sreg r >>= f) ↔ ∀ sr, r = Encoder.sregField sr → Sound lvl pre (f sr) := by
  simp [(exact_sreg r).sound_bind]

@[simp] theorem sound_at186 {d : Decoder Instr} :
    Sound lvl pre (at186 lvl d) ↔ (lvl.includes .l186 = true → Sound lvl pre d) := by
  cases lvl <;> simp [at186, Level.includes]

@[simp] theorem sound_atX86 {d : Decoder Instr} : Sound lvl pre (atX86 lvl d) ↔ (lvl = .lx86 → Sound .lx86 pre d) := by
  cases lvl <;> simp [atX86]

/-- Each row of a table is sound after the byte that selects it. -/
def SoundRows (pre : List Byte) (rows : Nat → Option (Decoder Instr)) : Prop :=
  ∀ n d, rows n = some d → Sound .lx86 (pre ++ [BitVec.ofNat 8 n]) d

theorem SoundRows.apply {rows : Nat → Option (Decoder Instr)} (hr : SoundRows pre rows) {b : Byte}
    {d : Decoder Instr} (hd : rows b.toNat = some d) {bs rest : List Byte} {i : Instr} (h : d bs = .ok (i, rest)) :
    i.wf .lx86 = true ∧ pre ++ b :: bs = encode i ++ rest := by
  have := hr _ _ hd _ _ _ h
  rwa [← byte_eq_ofNat rfl, List.append_assoc] at this

theorem sound_opcodeSelecting {alone : Instr} {rows1 rows0F rows0F38 rows0F3A : Nat → Option (Decoder Instr)}
    (ha : Sound .lx86 pre (pure alone)) (h1 : SoundRows pre rows1) (h0F : SoundRows (pre ++ [0x0F]) rows0F)
    (h38 : SoundRows (pre ++ [0x0F, 0x38]) rows0F38) (h3A : SoundRows (pre ++ [0x0F, 0x3A]) rows0F3A) :
    Sound .lx86 pre (opcodeSelecting alone rows1 rows0F rows0F38 rows0F3A) := by
  intro bs i rest h
  rw [opcodeSelecting, get_bind_run] at h
  cases bs with
  | nil => exact ha _ _ _ h
  | cons b1 bs1 =>
    cases h1b : rows1 b1.toNat with
    | some d =>
      simp only [h1b, set_bind_run] at h
      exact h1.apply h1b h
    | none =>
      simp only [h1b] at h
      split at h
      next hb1 =>
        subst hb1
        cases bs1 with
        | nil => exact ha _ _ _ h
        | cons b2 bs2 =>
          cases h0Fb : rows0F b2.toNat with
          | some d =>
            simp only [h0Fb] at h
            simpa using h0F.apply h0Fb h
          | none =>
            simp only [h0Fb] at h
            cases bs2 with
            | nil => exact ha _ _ _ h
            | cons b3 bs3 =>
              cases hr : (if b2 = 0x38 then rows0F38 b3.toNat else if b2 = 0x3A then rows0F3A b3.toNat else none) with
              | none =>
                simp only [hr] at h
                exact ha _ _ _ h
              | some d =>
                simp only [hr, set_bind_run] at h
                split at hr
                next hb2 => subst hb2; simpa using h38.apply hr h
                next =>
                  split at hr
                  next hb2 => subst hb2; simpa using h3A.apply hr h
                  next => cases hr
      next => exact ha _ _ _ h

end

/-! ### The groups, by their extension field -/

section
variable {lvl : Level}

theorem sound_group1 (w : Width) : Sound lvl [Encoder.opW 0x80 w] (group1 w) := by
  simp only [group1, sound_modRM]
  intro x rm h
  cases w with
  | byte =>
    rw [sound_imm_byte]
    intro b
    cases x <;> simp [Instr.level.eq_def, Instr.operandsWf.eq_def, encode.eq_def, h]
  | word =>
    rw [sound_imm_word]
    intro v
    cases x <;> simp [Instr.level.eq_def, Instr.operandsWf.eq_def, encode.eq_def, h]

theorem sound_group1Sign : Sound lvl [0x83] group1Sign := by
  simp only [group1Sign, sound_modRM]
  intro x rm h
  cases x <;> simp [-bind_pure_comp, Instr.level.eq_def, Instr.operandsWf.eq_def, encode.eq_def, h]

theorem sound_group2 (w : Width) (n : ShiftBy) : Sound lvl [Encoder.opShift n w] (group2 w n) := by
  simp only [group2, sound_modRM]
  intro x rm h
  cases x <;> simp [Instr.level.eq_def, Instr.operandsWf.eq_def, encode.eq_def, h]

theorem sound_group3 (w : Width) : Sound lvl [Encoder.opW 0xF6 w] (group3 w) := by
  simp only [group3, sound_modRM]
  intro x rm h
  cases x with
  | r0 => cases w <;> simp [-bind_pure_comp, Instr.level.eq_def, Instr.operandsWf.eq_def, encode.eq_def, h]
  | _ => simp [Instr.level.eq_def, Instr.operandsWf.eq_def, encode.eq_def, h]

theorem sound_group4 : Sound lvl [0xFE] group4 := by
  simp only [group4, sound_modRM]
  intro x rm h
  cases x <;> simp [Instr.level.eq_def, Instr.operandsWf.eq_def, encode.eq_def, h]

theorem sound_group5 : Sound lvl [0xFF] group5 := by
  simp only [group5, sound_modRM]
  intro x rm h
  cases x <;> simp [-bind_pure_comp, Instr.level.eq_def, Instr.operandsWf.eq_def, encode.eq_def, h]
  case r3 | r5 =>
    rintro m rfl
    exact ⟨h, rfl⟩

/-! ### Two-byte rows of level LX86 -/

theorem sound_map0F01 : Sound .lx86 [0x0F, 0x01] map0F01 := by
  simp only [map0F01, sound_byte]
  intro b
  generalize hb : b.toNat = n
  obtain rfl := byte_eq_ofNat hb
  split <;> simp [Level.includes, Instr.level.eq_def, Instr.operandsWf.eq_def, encode.eq_def]

theorem sound_map0FAE : Sound .lx86 [0x0F, 0xAE] map0FAE := by
  simp only [map0FAE, sound_modRM]
  intro x rm h
  split
  case h_1 heq =>
    cases heq
    exact sound_pure.2 ⟨⟨rfl, h⟩, rfl⟩
  case h_2 heq | h_3 heq | h_4 heq =>
    cases heq
    exact sound_pure.2 ⟨⟨rfl, rfl⟩, rfl⟩
  case h_5 => exact sound_refuse

theorem sound_map0FBA : Sound .lx86 [0x0F, 0xBA] map0FBA := by
  simp only [map0FBA, sound_modRM]
  intro x rm h
  cases x <;> simp [-bind_pure_comp, Level.includes, Instr.level.eq_def, Instr.operandsWf.eq_def, encode.eq_def, h]

theorem sound_map0FC7 : Sound .lx86 [0x0F, 0xC7] map0FC7 := by
  simp only [map0FC7, sound_modRM]
  intro x rm h
  cases x <;> simp [-bind_pure_comp, Level.includes, Instr.level.eq_def, Instr.operandsWf.eq_def, encode.eq_def]
  rintro m rfl
  exact ⟨h, rfl⟩

theorem sound_map0F : Sound .lx86 [0x0F] map0F := by
  simp only [map0F, sound_byte]
  intro b
  generalize hb : b.toNat = n
  obtain rfl := byte_eq_ofNat hb
  split <;> simp [-bind_pure_comp, Level.includes, Instr.level.eq_def, Instr.operandsWf.eq_def, encode.eq_def, Encoder.opR,
    RegNum.toBits]
  · exact sound_map0F01
  · exact sound_map0FAE
  · exact sound_map0FBA
  · exact sound_map0FC7

/-! ### Rows after 66h, F2h and F3h -/

theorem soundRows_rows66 : SoundRows [0x66] rows66 := by
  intro n
  unfold rows66
  split <;> simp [Level.includes, Instr.level.eq_def, Instr.operandsWf.eq_def, encode.eq_def]

theorem soundRows_rows660F : SoundRows [0x66, 0x0F] rows660F := by
  intro n
  unfold rows660F
  split <;> simp [-bind_pure_comp, Level.includes, Instr.level.eq_def, Instr.operandsWf.eq_def, encode.eq_def]

theorem soundRows_rows660F38 : SoundRows [0x66, 0x0F, 0x38] rows660F38 := by
  intro n
  unfold rows660F38
  split <;> simp [-bind_pure_comp, Level.includes, Instr.level.eq_def, Instr.operandsWf.eq_def, encode.eq_def]

theorem soundRows_rows660F3A : SoundRows [0x66, 0x0F, 0x3A] rows660F3A := by
  intro n
  unfold rows660F3A
  split <;> simp [-bind_pure_comp, Level.includes, Instr.level.eq_def, Instr.operandsWf.eq_def, encode.eq_def]

theorem soundRows_rowsF20F : SoundRows [0xF2, 0x0F] rowsF20F := by
  intro n
  unfold rowsF20F
  split <;> simp [-bind_pure_comp, Level.includes, Instr.level.eq_def, Instr.operandsWf.eq_def, encode.eq_def]

theorem soundRows_rowsF20F38 : SoundRows [0xF2, 0x0F, 0x38] rowsF20F38 := by
  intro n
  unfold rowsF20F38
  split <;> simp [-bind_pure_comp, Level.includes, Instr.level.eq_def, Instr.operandsWf.eq_def, encode.eq_def]

theorem soundRows_rowsF30F : SoundRows [0xF3, 0x0F] rowsF30F := by
  intro n
  unfold rowsF30F
  split <;> simp [-bind_pure_comp, Level.includes, Instr.level.eq_def, Instr.operandsWf.eq_def, encode.eq_def]

theorem soundRows_rowsF3 : SoundRows [0xF3] rowsF3 := by
  intro n
  unfold rowsF3
  split <;> simp [Level.includes, Instr.level.eq_def, Instr.operandsWf.eq_def, encode.eq_def]

theorem soundRows_noRows {pre : List Byte} : SoundRows pre noRows := nofun

theorem sound_map66 : Sound .lx86 [0x66] map66 :=
  sound_opcodeSelecting (sound_pure.2 ⟨⟨rfl, rfl⟩, rfl⟩) soundRows_rows66 soundRows_rows660F soundRows_rows660F38
    soundRows_rows660F3A

theorem sound_mapF2 : Sound lvl [0xF2] (mapF2 lvl) := by
  cases lvl with
  | l8086 | l186 => exact sound_pure.2 ⟨⟨rfl, rfl⟩, rfl⟩
  | lx86 =>
    exact sound_opcodeSelecting (sound_pure.2 ⟨⟨rfl, rfl⟩, rfl⟩) soundRows_noRows soundRows_rowsF20F soundRows_rowsF20F38
      soundRows_noRows

theorem sound_mapF3 : Sound lvl [0xF3] (mapF3 lvl) := by
  cases lvl with
  | l8086 | l186 => exact sound_pure.2 ⟨⟨rfl, rfl⟩, rfl⟩
  | lx86 =>
    exact sound_opcodeSelecting (sound_pure.2 ⟨⟨rfl, rfl⟩, rfl⟩) soundRows_rowsF3 soundRows_rowsF30F soundRows_noRows
      soundRows_noRows

/-! ### WAIT and ESC -/

theorem sound_waitOr : Sound lvl [0x9B] (waitOr lvl) := by
  intro bs i rest h
  rw [waitOr, get_bind_run] at h
  split at h
  next b =>
    split at h
    · cases h
    · cases h; simp [Instr.wf, Instr.level.eq_def, Instr.operandsWf.eq_def, encode.eq_def]
  next b c bs =>
    split at h
    next hb =>
      subst hb
      generalize hc : c.toNat = n at h
      obtain rfl := byte_eq_ofNat hc
      split at h <;> cases h <;> exact ⟨rfl, rfl⟩
    next => cases h; exact ⟨rfl, rfl⟩
  next => cases h; exact ⟨by cases lvl <;> rfl, rfl⟩

theorem sound_escape (t : BitVec 3) : Sound lvl [0xD8 ||| t.setWidth 8] (escape lvl t) := by
  simp only [escape, sound_modRM]
  intro l rm h
  cases lvl with
  | l8086 | l186 => simp [Instr.level.eq_def, Instr.operandsWf.eq_def, encode.eq_def, h]
  | lx86 =>
    cases hx : x87 t l rm with
    | none => simp [Instr.level.eq_def, Instr.operandsWf.eq_def, encode.eq_def, h, (x87_eq_none_iff ..).1 hx]
    | some i =>
      obtain ⟨⟨hl, ho⟩, hb⟩ := x87_sound t l h hx
      simp [hl, ho, ← hb]

end

/-! ### The opcode map, by the high four bits of the first byte -/

section
variable (lvl : Level) (n : Nat)

theorem sound_map0 : Sound lvl [BitVec.ofNat 8 (0x00 + n)] (map0 lvl n) := by
  unfold map0
  split <;> simp [-bind_pure_comp, Instr.level.eq_def, Instr.operandsWf.eq_def, encode.eq_def]
  exact fun _ => sound_map0F

theorem sound_map1 : Sound lvl [BitVec.ofNat 8 (0x10 + n)] (map1 lvl n) := by
  unfold map1
  split <;> simp [-bind_pure_comp, Instr.level.eq_def, Instr.operandsWf.eq_def, encode.eq_def]

theorem sound_map2 : Sound lvl [BitVec.ofNat 8 (0x20 + n)] (map2 lvl n) := by
  unfold map2
  split <;> simp [-bind_pure_comp, Instr.level.eq_def, Instr.operandsWf.eq_def, encode.eq_def]

theorem sound_map3 : Sound lvl [BitVec.ofNat 8 (0x30 + n)] (map3 lvl n) := by
  unfold map3
  split <;> simp [-bind_pure_comp, Instr.level.eq_def, Instr.operandsWf.eq_def, encode.eq_def]

theorem sound_map4 : Sound lvl [BitVec.ofNat 8 (0x40 + n)] (map4 lvl n) := by
  unfold map4
  split <;> simp [Instr.level.eq_def, Instr.operandsWf.eq_def, encode.eq_def, Encoder.opR,
    RegNum.toBits]

theorem sound_map5 : Sound lvl [BitVec.ofNat 8 (0x50 + n)] (map5 lvl n) := by
  unfold map5
  split <;> simp [Instr.level.eq_def, Instr.operandsWf.eq_def, encode.eq_def, Encoder.opR,
    RegNum.toBits]

theorem sound_map6 : Sound lvl [BitVec.ofNat 8 (0x60 + n)] (map6 lvl n) := by
  unfold map6
  split <;> simp +contextual [-bind_pure_comp, Instr.level.eq_def, Instr.operandsWf.eq_def, encode.eq_def]
  exact fun _ => sound_map66

theorem sound_map7 : Sound lvl [BitVec.ofNat 8 (0x70 + n)] (map7 lvl n) := by
  unfold map7
  split <;> simp [-bind_pure_comp, Instr.level.eq_def, Instr.operandsWf.eq_def, encode.eq_def]

theorem sound_map8 : Sound lvl [BitVec.ofNat 8 (0x80 + n)] (map8 lvl n) := by
  unfold map8
  split <;> simp [-bind_pure_comp, Instr.level.eq_def, Instr.operandsWf.eq_def, encode.eq_def]
  · exact sound_group1 .byte
  · exact sound_group1 .word
  · exact sound_group1Sign
  · rintro r rm h sr rfl
    exact ⟨h, rfl⟩
  · rintro r rm h sr rfl
    cases sr <;> simp [Instr.level.eq_def, Instr.operandsWf.eq_def, encode.eq_def, h]
  · intro r rm h
    cases r <;> simp [Instr.level.eq_def, Instr.operandsWf.eq_def, encode.eq_def, h]

theorem sound_map9 : Sound lvl [BitVec.ofNat 8 (0x90 + n)] (map9 lvl n) := by
  unfold map9
  split <;> simp [-bind_pure_comp, Instr.level.eq_def, Instr.operandsWf.eq_def, encode.eq_def, Encoder.opR,
    RegNum.toBits]
  exact sound_waitOr

theorem sound_mapA : Sound lvl [BitVec.ofNat 8 (0xA0 + n)] (mapA lvl n) := by
  unfold mapA
  split <;> simp [-bind_pure_comp, Instr.level.eq_def, Instr.operandsWf.eq_def, encode.eq_def]

theorem sound_mapB : Sound lvl [BitVec.ofNat 8 (0xB0 + n)] (mapB lvl n) := by
  unfold mapB
  split <;> simp [-bind_pure_comp, Instr.level.eq_def, Instr.operandsWf.eq_def, encode.eq_def, Encoder.opR,
    RegNum.toBits]

theorem sound_mapC : Sound lvl [BitVec.ofNat 8 (0xC0 + n)] (mapC lvl n) := by
  unfold mapC
  split <;> simp +contextual [-bind_pure_comp, Instr.level.eq_def, Instr.operandsWf.eq_def, encode.eq_def]
  all_goals
    intro r rm h
    cases r <;> simp [-bind_pure_comp, Instr.level.eq_def, Instr.operandsWf.eq_def, encode.eq_def, h]

theorem sound_mapD : Sound lvl [BitVec.ofNat 8 (0xD0 + n)] (mapD lvl n) := by
  unfold mapD
  split <;> simp [-bind_pure_comp, Instr.level.eq_def, Instr.operandsWf.eq_def, encode.eq_def]
  case h_5 | h_6 =>
    intro b
    generalize hb : b.toNat = k
    obtain rfl := byte_eq_ofNat hb
    split <;> simp [Instr.level.eq_def, Instr.operandsWf.eq_def, encode.eq_def]
  · exact sound_group2 .byte .one
  · exact sound_group2 .word .one
  · exact sound_group2 .byte .cl
  · exact sound_group2 .word .cl
  · exact sound_escape 0
  · exact sound_escape 1
  · exact sound_escape 2
  · exact sound_escape 3
  · exact sound_escape 4
  · exact sound_escape 5
  · exact sound_escape 6
  · exact sound_escape 7

theorem sound_mapE : Sound lvl [BitVec.ofNat 8 (0xE0 + n)] (mapE lvl n) := by
  unfold mapE
  split <;> simp [-bind_pure_comp, Instr.level.eq_def, Instr.operandsWf.eq_def, encode.eq_def]

theorem sound_mapF : Sound lvl [BitVec.ofNat 8 (0xF0 + n)] (mapF lvl n) := by
  unfold mapF
  split <;> simp +contextual [-bind_pure_comp, Instr.level.eq_def, Instr.operandsWf.eq_def, encode.eq_def]
  · exact sound_mapF2
  · exact sound_mapF3
  · exact sound_group3 .byte
  · exact sound_group3 .word
  · exact sound_group4
  · exact sound_group5

theorem sound_opcodeMap (b : Byte) : Sound lvl [b] (opcodeMap lvl b) := by
  have hb : b = BitVec.ofNat 8 (16 * (b.toNat / 16) + b.toNat % 16) := by
    rw [Nat.div_add_mod]; exact byte_eq_ofNat rfl
  have hlt : b.toNat / 16 < 16 := Nat.div_lt_of_lt_mul b.isLt
  unfold opcodeMap
  generalize b.toNat % 16 = n at hb ⊢
  generalize b.toNat / 16 = m at hb hlt ⊢
  subst hb
  interval_cases m
  · exact sound_map0 lvl n
  · exact sound_map1 lvl n
  · exact sound_map2 lvl n
  · exact sound_map3 lvl n
  · exact sound_map4 lvl n
  · exact sound_map5 lvl n
  · exact sound_map6 lvl n
  · exact sound_map7 lvl n
  · exact sound_map8 lvl n
  · exact sound_map9 lvl n
  · exact sound_mapA lvl n
  · exact sound_mapB lvl n
  · exact sound_mapC lvl n
  · exact sound_mapD lvl n
  · exact sound_mapE lvl n
  · exact sound_mapF lvl n

end

theorem sound_decode (lvl : Level) : Sound lvl [] (decode lvl) :=
  sound_byte.2 (sound_opcodeMap lvl)

end Decoder

/-- Settles O4: the rules, applied to the whole opcode map. -/
theorem decodedIsTheEncoding : Obligations.DecodedIsTheEncoding :=
  fun lvl bs rest i h => Decoder.sound_decode lvl bs i rest h

end Sys2Proof

/-! ## The decoder reads every encoding back -/

namespace Sys2Proof

/-- The instructions of one byte that at level LX86 are also the first byte of longer rows (R144, R165). -/
def Instr.beginsLongerRow : Instr → Bool
  | .wait | .operandSize | .repne | .rep => true
  | _ => false

namespace Decoder
variable {α β : Type}

theorem Exact.bind_run {d : Decoder α} {f : α → Decoder β} {enc : α → List Byte} {P : α → Prop} {a : α}
    {rest : List Byte} (hd : Exact d enc P) (ha : P a) : (d >>= f) (enc a ++ rest) = f a rest := by
  have hrun : d (enc a ++ rest) = .ok (a, rest) := (hd ..).2 ⟨ha, rfl⟩
  change (d (enc a ++ rest) >>= fun p => f p.1 p.2) = _
  rw [hrun]
  rfl

/-! ### Reading an encoded field -/

section
variable {bs : List Byte}

@[simp] theorem pure_run {a : α} : (pure a : Decoder α) bs = .ok (a, bs) := rfl

@[simp] theorem byte_run {f : Byte → Decoder β} {b : Byte} : (byte >>= f) (b :: bs) = f b bs := rfl

@[simp] theorem word_run {f : Word → Decoder β} {v : Word} : (word >>= f) (Encoder.word v ++ bs) = f v bs :=
  exact_word.bind_run trivial

@[simp] theorem imm_byte_run {f : Imm → Decoder β} {b : Byte} : (imm .byte >>= f) (b :: bs) = f (.ib b) bs := rfl

@[simp] theorem imm_word_run {f : Imm → Decoder β} {v : Word} :
    (imm .word >>= f) (Encoder.word v ++ bs) = f (.iw v) bs := (exact_imm .word).bind_run (a := .iw v) rfl

@[simp] theorem modRM_run {f : RegNum × RM → Decoder β} {r : RegNum} {rm : RM} (h : rm.wf = true) :
    (modRM >>= f) (Encoder.modRM r rm ++ bs) = f (r, rm) bs := exact_modRM.bind_run (a := (r, rm)) h

theorem modRM_run_append {f : RegNum × RM → Decoder β} {r : RegNum} {rm : RM} {tail : List Byte} (h : rm.wf = true) :
    (modRM >>= f) (Encoder.modRM r rm ++ tail ++ bs) = f (r, rm) (tail ++ bs) := by
  rw [List.append_assoc, modRM_run h]

@[simp] theorem memOnly_run {f : MemEA → Decoder β} {m : MemEA} : (memOnly (.mem m) >>= f) bs = f m bs := rfl

@[simp] theorem sreg_run {f : SReg → Decoder β} {sr : SReg} : (sreg (Encoder.sregField sr) >>= f) bs = f sr bs := by
  cases sr <;> rfl

theorem decode_cons {lvl : Level} {b : Byte} : decode lvl (b :: bs) = opcodeMap lvl b bs := rfl

end

/-! ### Rows with an operand in the opcode -/

section
variable (lvl : Level)

theorem opcodeMap_movRegImm_byte (r : RegNum) :
    opcodeMap lvl (Encoder.opR 0xB0#8 r) = imm .byte >>= fun i => pure (.movRegImm r i) := by cases r <;> rfl

theorem opcodeMap_movRegImm_word (r : RegNum) :
    opcodeMap lvl (Encoder.opR 0xB8#8 r) = imm .word >>= fun i => pure (.movRegImm r i) := by cases r <;> rfl

theorem opcodeMap_escape (t : BitVec 3) : opcodeMap lvl (0xD8#8 ||| t.setWidth 8) = escape lvl t := by
  obtain rfl | rfl | rfl | rfl | rfl | rfl | rfl | rfl := bitVec3_cases t <;> rfl

end

/-! ### The rows of level LX86 by their opcode bytes -/

section
variable {d : Decoder Instr} {b : Byte} {bs : List Byte}

theorem decode_0F : decode .lx86 (0x0F :: bs) = map0F bs := rfl

theorem decode_660F (h : rows660F b.toNat = some d) : decode .lx86 (0x66 :: 0x0F :: b :: bs) = d bs :=
  show map66 _ = _ from opcodeSelecting_row0F rfl h

theorem decode_660F38 (h : rows660F38 b.toNat = some d) : decode .lx86 (0x66 :: 0x0F :: 0x38 :: b :: bs) = d bs :=
  show map66 _ = _ from opcodeSelecting_row0F38 rfl rfl h

theorem decode_660F3A (h : rows660F3A b.toNat = some d) : decode .lx86 (0x66 :: 0x0F :: 0x3A :: b :: bs) = d bs :=
  show map66 _ = _ from opcodeSelecting_row0F3A rfl rfl h

theorem decode_F20F (h : rowsF20F b.toNat = some d) : decode .lx86 (0xF2 :: 0x0F :: b :: bs) = d bs :=
  show opcodeSelecting .repne noRows rowsF20F rowsF20F38 noRows _ = _ from opcodeSelecting_row0F rfl h

theorem decode_F20F38 (h : rowsF20F38 b.toNat = some d) : decode .lx86 (0xF2 :: 0x0F :: 0x38 :: b :: bs) = d bs :=
  show opcodeSelecting .repne noRows rowsF20F rowsF20F38 noRows _ = _ from opcodeSelecting_row0F38 rfl rfl h

theorem decode_F30F (h : rowsF30F b.toNat = some d) : decode .lx86 (0xF3 :: 0x0F :: b :: bs) = d bs :=
  show mapF3 .lx86 _ = _ from opcodeSelecting_row0F rfl h

end

/-! ### The round trip, by the form of the operands -/

/-- ESC below level LX86, and at it the ESC encodings that are no x87 instruction of a row (R443). -/
theorem decode_encode_esc {lvl : Level} {t l : BitVec 3} {rm : RM} (rest : List Byte)
    (ho : (Instr.esc t l rm).operandsWf lvl = true) :
    decode lvl (encode (.esc t l rm) ++ rest) = .ok (.esc t l rm, rest) := by
  obtain ⟨hrm, hnamed⟩ : rm.wf = true ∧ (lvl ≠ .lx86 ∨ namedX87 t l rm = false) := by
    simpa [Instr.operandsWf.eq_def] using ho
  cases lvl with
  | l8086 | l186 => simp [-bind_pure_comp, encode.eq_def, decode_cons, opcodeMap_escape, escape, hrm]
  | lx86 =>
    have hx : x87 t (RegNum.ofBits l) rm = none := by simpa [x87_eq_none_iff] using hnamed
    simp [-bind_pure_comp, encode.eq_def, decode_cons, opcodeMap_escape, escape, hrm, hx]

theorem decode_encode_l8086 {lvl : Level} {i : Instr} (rest : List Byte) (hl : i.level = .l8086)
    (ho : i.operandsWf lvl = true) (hp : lvl = .lx86 → i.beginsLongerRow = false) :
    decode lvl (encode i ++ rest) = .ok (i, rest) := by
  cases i with
  | addRmReg w rm r | orRmReg w rm r | adcRmReg w rm r | sbbRmReg w rm r | andRmReg w rm r | subRmReg w rm r
  | xorRmReg w rm r | cmpRmReg w rm r | testRmReg w rm r | xchgRmReg w rm r | movRmReg w rm r =>
    cases w <;> exact decode_cons.trans (modRM_run ho)
  | addRegRm w r rm | orRegRm w r rm | adcRegRm w r rm | sbbRegRm w r rm | andRegRm w r rm | subRegRm w r rm
  | xorRegRm w r rm | cmpRegRm w r rm | movRegRm w r rm =>
    cases w <;> exact decode_cons.trans (modRM_run ho)
  | addAcc imm | orAcc imm | adcAcc imm | sbbAcc imm | andAcc imm | subAcc imm | xorAcc imm | cmpAcc imm
  | testAcc imm =>
    cases imm <;> simp [-bind_pure_comp, encode.eq_def, decode_cons, opcodeMap, map0, map1, map2, map3, mapA]
  | addRmImm rm imm | orRmImm rm imm | adcRmImm rm imm | sbbRmImm rm imm | andRmImm rm imm | subRmImm rm imm
  | xorRmImm rm imm | cmpRmImm rm imm =>
    have hrm : rm.wf = true := ho
    cases imm <;> simp [-bind_pure_comp, encode.eq_def, decode_cons, opcodeMap, map8, group1, hrm]
  | movRmImm rm imm =>
    have hrm : rm.wf = true := ho
    cases imm <;> simp [-bind_pure_comp, encode.eq_def, decode_cons, opcodeMap, mapC, hrm]
  | testRmImm rm imm =>
    have hrm : rm.wf = true := ho
    cases imm <;> simp [-bind_pure_comp, encode.eq_def, decode_cons, opcodeMap, mapF, group3, hrm]
  | addRmImm8 rm b | adcRmImm8 rm b | sbbRmImm8 rm b | andRmImm8 rm b | subRmImm8 rm b | cmpRmImm8 rm b =>
    exact decode_cons.trans ((modRM_run_append ho).trans byte_run)
  | pushEs | popEs | overrideEs | pushCs | overrideCs | pushSs | popSs | overrideSs | pushDs | popDs
  | overrideDs | daa | das | aaa | aas | nop | cbw | cwd | pushf | popf | sahf | lahf | ret | retf | int3 | into
  | iret | setalc | xlat | lock | hlt | cmc | clc | stc | cli | sti | cld | std => rfl
  | wait | repne | rep =>
    cases lvl with
    | l8086 | l186 => rfl
    | lx86 => cases hp rfl
  | incReg r | decReg r | pushReg r | popReg r =>
    cases r <;> rfl
  | xchgAx r =>
    cases r with
    | r0 => cases ho
    | _ => rfl
  | jo b | jno b | jb b | jnb b | jz b | jnz b | jbe b | jnbe b | js b | jns b | jp b | jnp b | jl b | jnl b
  | jle b | jnle b | intN b | loopne b | loope b | loop b | jcxz b | jmpShort b => rfl
  | movRmSreg rm sr =>
    exact decode_cons.trans ((modRM_run ho).trans sreg_run)
  | lea r m | les r m | lds r m =>
    exact decode_cons.trans (modRM_run ho)
  | movSregRm sr rm =>
    obtain ⟨hcs, hrm⟩ : sr ≠ .cs ∧ rm.wf = true := by simpa [Instr.operandsWf.eq_def] using ho
    cases sr with
    | cs => exact absurd rfl hcs
    | es | ss | ds => simp [-bind_pure_comp, encode.eq_def, decode_cons, opcodeMap, map8, hrm]
  | popRm rm | callRm rm | jmpRm rm | pushRm rm =>
    exact decode_cons.trans (modRM_run ho)
  | callFar off seg | jmpFar off seg =>
    exact decode_cons.trans (word_run.trans word_run)
  | movAccMem w off | movMemAcc w off =>
    cases w <;> exact decode_cons.trans word_run
  | movs w | cmps w | stos w | lods w | scas w | inDx w | outDx w =>
    cases w <;> rfl
  | movRegImm r imm =>
    cases imm <;> simp [-bind_pure_comp, encode.eq_def, decode_cons, opcodeMap_movRegImm_byte, opcodeMap_movRegImm_word]
  | retImm v | retfImm v | callNear v | jmpNear v =>
    exact decode_cons.trans word_run
  | rol w n rm | ror w n rm | rcl w n rm | rcr w n rm | shl w n rm | shr w n rm | sar w n rm =>
    cases n <;> cases w <;> exact decode_cons.trans (modRM_run ho)
  | aam | aad => rfl
  | esc t l rm =>
    exact decode_encode_esc rest ho
  | inImm w b | outImm w b =>
    cases w <;> rfl
  | notRm w rm | neg w rm | mul w rm | imul w rm | div w rm | idiv w rm | incRm w rm | decRm w rm =>
    cases w <;> exact decode_cons.trans (modRM_run ho)
  | callFarMem m | jmpFarMem m =>
    exact decode_cons.trans (modRM_run ho)
  | _ => cases hl

theorem at186_of_includes {lvl : Level} (h : lvl.includes .l186 = true) (d : Decoder Instr) : at186 lvl d = d := by
  cases lvl with
  | l8086 => cases h
  | l186 | lx86 => rfl

theorem decode_encode_l186 {lvl : Level} {i : Instr} (rest : List Byte) (hl : i.level = .l186)
    (hlvl : lvl.includes .l186 = true) (ho : i.operandsWf lvl = true) :
    decode lvl (encode i ++ rest) = .ok (i, rest) := by
  cases i with
  | pusha | popa | leave =>
    simp [-bind_pure_comp, encode.eq_def, decode_cons, opcodeMap, map6, mapC, at186_of_includes hlvl]
  | bound r m =>
    have hm : (RM.mem m).wf = true := ho
    simp [-bind_pure_comp, encode.eq_def, decode_cons, opcodeMap, map6, at186_of_includes hlvl, hm]
  | pushImm v | pushImm8 b =>
    simp [-bind_pure_comp, encode.eq_def, decode_cons, opcodeMap, map6, at186_of_includes hlvl]
  | ins w | outs w =>
    cases w <;> simp [-bind_pure_comp, encode.eq_def, decode_cons, opcodeMap, map6, at186_of_includes hlvl]
  | enter v b =>
    simp [-bind_pure_comp, encode.eq_def, decode_cons, opcodeMap, mapC, at186_of_includes hlvl]
  | _ => cases hl

theorem decode_encode_lx86 {i : Instr} (rest : List Byte) (hl : i.level = .lx86) (ho : i.operandsWf .lx86 = true)
    (hp : i.beginsLongerRow = false) : decode .lx86 (encode i ++ rest) = .ok (i, rest) := by
  cases i with
  | faddMem z m | fcomMem z m | fcompMem z m | fdivMem z m | fdivrMem z m | fiaddMem z m =>
    cases z <;> exact decode_cons.trans (modRM_run ho)
  | faddReg r | fcomReg r | fcompReg r | fdivReg r | fdivrReg r | fcmovb r | fcmove r | fcmovbe r | fcmovu r
  | fcmovnb r | fcmovne r | fcmovnbe r | fcmovnu r | fucomi r | fcomi r | faddRegSt0 r | fdivrRegSt0 r
  | fdivRegSt0 r | ffree r | faddp r | fdivrp r | fdivp r | ffreep r | fucomip r | fcomip r | bswap r =>
    cases r <;> rfl
  | fchs | fabs | f2xm1 | fdecstp | fcos | fsetpm | fcompp | syscall | clts | loadallSysret | wbinvd | ud2
  | wrmsr | rdtsc | rdmsr | rdpmc | sysenter | sysexit | pushFs | popFs | cpuid | pushGs | popGs | rsm | oio
  | pushad | popad | insd | outsd | cwde | cdq | pushfd | popfd | movsd | cmpsd | stosd | lodsd | scasd | pause
  | femms | emms => rfl
  | fbld m | fbstp m =>
    exact decode_cons.trans (modRM_run ho)
  | feni | fdisi | fclex | monitor | mwait | vmmcall | stgi | clgi | skinit | invlpga | swapgs | rdtscp | lfence
  | mfence | sfence => rfl
  | cmovo r rm | cmovno r rm | cmovb r rm | cmovnb r rm | cmovz r rm | cmovnz r rm | cmovbe r rm | cmovnbe r rm
  | cmovs r rm | cmovns r rm | cmovp r rm | cmovnp r rm | cmovl r rm | cmovnl r rm | cmovle r rm | cmovnle r rm
  | btRmReg r rm | btsRmReg r rm | cmpxchgRm8 r rm | cmpxchgRm16 r rm | btrRmReg r rm | btcRmReg r rm | bsf r rm
  | bsr r rm | cvtpi2ps r rm | cvttps2pi r rm | cvtps2pi r rm | comiss r rm | andps r rm | andnps r rm
  | addps r rm | cvtps2pd r rm | cvtdq2ps r rm | divps r rm =>
    exact decode_0F.trans (byte_run.trans (modRM_run ho))
  | clflush m | cmpxchg8b m =>
    exact decode_0F.trans (byte_run.trans (modRM_run ho))
  | btRmImm rm b | btsRmImm rm b | btrRmImm rm b | btcRmImm rm b =>
    exact decode_0F.trans (byte_run.trans ((modRM_run_append ho).trans byte_run))
  | arpl r rm =>
    exact decode_cons.trans (modRM_run ho)
  | smiIcebp | overrideFs | overrideGs => rfl
  | operandSize =>
    cases hp
  | crc32 w r rm =>
    cases w <;> exact (decode_F20F38 rfl).trans (modRM_run ho)
  | cvtpi2pd r rm | cvttpd2pi r rm | cvtpd2pi r rm | comisd r rm | andpd r rm | andnpd r rm | addpd r rm
  | cvtpd2ps r rm | cvtps2dq r rm | divpd r rm | addsubpd r rm | cvttpd2dq r rm =>
    exact (decode_660F rfl).trans (modRM_run ho)
  | cvtsi2sd r rm | cvttsd2si r rm | cvtsd2si r rm | addsd r rm | cvtsd2ss r rm | divsd r rm | addsubps r rm
  | cvtpd2dq r rm =>
    exact (decode_F20F rfl).trans (modRM_run ho)
  | popcnt r rm | cvtsi2ss r rm | cvttss2si r rm | cvtss2si r rm | addss r rm | cvtss2sd r rm | cvttps2dq r rm
  | divss r rm | cvtdq2pd r rm =>
    exact (decode_F30F rfl).trans (modRM_run ho)
  | cmpps r rm b =>
    exact decode_0F.trans (byte_run.trans ((modRM_run_append ho).trans byte_run))
  | blendvps r rm | blendvpd r rm | aesimc r rm | aesenc r rm | aesenclast r rm | aesdec r rm | aesdeclast r rm =>
    exact (decode_660F38 rfl).trans (modRM_run ho)
  | blendps r rm b | blendpd r rm b | dpps r rm b | dppd r rm b | aeskeygenassist r rm b =>
    exact (decode_660F3A rfl).trans ((modRM_run_append ho).trans byte_run)
  | cmppd r rm b =>
    exact (decode_660F rfl).trans ((modRM_run_append ho).trans byte_run)
  | cmpsdScalar r rm b =>
    exact (decode_F20F rfl).trans ((modRM_run_append ho).trans byte_run)
  | cmpss r rm b =>
    exact (decode_F30F rfl).trans ((modRM_run_append ho).trans byte_run)
  | _ => cases hl

theorem decode_encode {lvl : Level} {i : Instr} (rest : List Byte) (h : i.wf lvl = true)
    (hp : lvl = .lx86 → i.beginsLongerRow = false) : decode lvl (encode i ++ rest) = .ok (i, rest) := by
  obtain ⟨hlvl, ho⟩ := Bool.and_eq_true_iff.1 h
  cases hl : i.level with
  | l8086 => exact decode_encode_l8086 rest hl ho hp
  | l186 => exact decode_encode_l186 rest hl (hl ▸ hlvl) ho
  | lx86 =>
    obtain rfl := (Level.includes_lx86 lvl).1 (hl ▸ hlvl)
    exact decode_encode_lx86 rest hl ho (hp rfl)

/-- At the end of the bytes such an instruction is the whole row. -/
theorem decode_encode_alone {i : Instr} (h : i.beginsLongerRow = true) : decode .lx86 (encode i) = .ok (i, []) := by
  cases i with
  | wait | operandSize | repne | rep => rfl
  | _ => cases h

end Decoder

/-- Settles O2: below level LX86 no row begins with another. -/
theorem decodeEncodeBelowX86 : Obligations.DecodeEncodeBelowX86 :=
  fun _ _ rest hlvl h => Decoder.decode_encode rest h fun hx => absurd hx hlvl

/-- Settles O3: the four instructions that begin longer rows stand alone, and the others need no end of the bytes. -/
theorem decodeEncodeX86 : Obligations.DecodeEncodeX86 := by
  intro i h
  cases hp : i.beginsLongerRow with
  | true => exact Decoder.decode_encode_alone hp
  | false => simpa using Decoder.decode_encode [] h fun _ => hp

/-- Settles O1 by running the decoder. -/
theorem decodeKnownWords : Obligations.DecodeKnownWords := ⟨rfl, rfl, rfl, rfl, rfl, rfl, rfl, rfl, rfl, rfl⟩

end Sys2Proof

/-! ## Effective addresses and their segments -/

namespace Sys2Proof.Machine

variable {s : State}

/-- R141: an override that was read decides. -/
theorem State.eaSeg_of_override {n : SReg} (m : MemEA) (h : s.pfx.seg = some n) : s.eaSeg m = s.sreg n := by
  rw [State.eaSeg, State.segOr, h, Option.getD_some]

theorem State.eaSeg_of_no_override (m : MemEA) (h : s.pfx.seg = none) : s.eaSeg m = s.sreg (defaultSeg m) := by
  rw [State.eaSeg, State.segOr, h, Option.getD_none]

theorem usesBp_iff (b : Base) : usesBp b = true ↔ b = .bpsi ∨ b = .bpdi ∨ b = .bp := by
  cases b <;> decide

/-- R134: one default segment for the three forms of a base. -/
theorem State.eaSeg_base (b : Base) (d : Byte) (v : Word) (h : s.pfx.seg = none) :
    let seg := s.sreg (if usesBp b then .ss else .ds)
    s.eaSeg (.base b) = seg ∧ s.eaSeg (.disp8 b d) = seg ∧ s.eaSeg (.disp16 b v) = seg :=
  ⟨s.eaSeg_of_no_override _ h, s.eaSeg_of_no_override _ h, s.eaSeg_of_no_override _ h⟩

/-- Settles O13: the row's sum is `baseSum`, and the segment is the override's or the default's. -/
theorem effectiveAddresses : Obligations.EffectiveAddresses := by
  intro s d v
  refine ⟨fun p hp => ?_, rfl, fun m n h => s.eaSeg_of_override m h,
    fun h => ⟨s.eaSeg_of_no_override _ h, fun b => ⟨fun hb => ?_, fun hsi hdi hbp => ?_⟩⟩⟩
  · have hsum : p.2 = s.baseSum p.1 := by
      revert p
      simp [State.baseSum]
    rw [hsum]
    exact ⟨fun _ => rfl, rfl, rfl⟩
  · have hss := s.eaSeg_base b d v h
    rwa [if_pos ((usesBp_iff b).2 hb)] at hss
  · have hds := s.eaSeg_base b d v h
    rwa [if_neg (mt (usesBp_iff b).1 (by simp [hsi, hdi, hbp]))] at hds

end Sys2Proof.Machine

/-! ## Data transfer: the stack -/

namespace Sys2Proof.Machine

section
variable {s t : State} {seg off v : Word}

/-! ### Words of memory -/

theorem State.HoldsWord.load (h : s.HoldsWord seg off v) : load .word seg off s = .ok (v, s) := by
  obtain ⟨hall, hlo, hhi⟩ := h
  exact (load_word_of_hold hall hlo hhi).trans (congrArg (fun x => Except.ok (x, s)) (highByte_append_lowByte v))

theorem mem_accessBytes_word {x : Nat} : x ∈ s.accessBytes .word seg off ↔
    x = byteAddr s.cfg.segWrap seg off 0 ∨ x = byteAddr s.cfg.segWrap seg off 1 := by simp [State.accessBytes]

theorem exists_byteAddr_of_mem_word {x : Nat} (hx : x ∈ s.accessBytes .word seg off) :
    ∃ i < 2, x = byteAddr s.cfg.segWrap seg off i :=
  (mem_accessBytes_word.1 hx).elim (fun h => ⟨0, by omega, h⟩) fun h => ⟨1, by omega, h⟩

theorem State.HoldsWord.of_ram (hram : s.AllRam (s.accessBytes .word seg off))
    (hlo : s.byteAt (byteAddr s.cfg.segWrap seg off 0) = some (lowByte v))
    (hhi : s.byteAt (byteAddr s.cfg.segWrap seg off 1) = some (highByte v)) : s.HoldsWord seg off v := by
  refine ⟨fun x hx => ⟨.inl (hram x hx), ?_⟩, hlo, hhi⟩
  obtain rfl | rfl := mem_accessBytes_word.1 hx
  · exact Option.isSome_of_eq_some hlo
  · exact Option.isSome_of_eq_some hhi

/-- Where the bytes of the word agree, it is held on. -/
theorem State.HoldsWord.of_agree (h : s.HoldsWord seg off v) (hcfg : t.cfg = s.cfg)
    (hmem : ∀ x ∈ s.accessBytes .word seg off, t.byteAt x = s.byteAt x) : t.HoldsWord seg off v := by
  obtain ⟨hall, hlo, hhi⟩ := h
  refine ⟨fun x hx => ?_, ?_, ?_⟩
  · rw [accessBytes_of_cfg hcfg] at hx
    rw [hcfg, hmem x hx]
    exact hall x hx
  · rw [hcfg, hmem _ (mem_accessBytes_word.2 (.inl rfl)), hlo]
  · rw [hcfg, hmem _ (mem_accessBytes_word.2 (.inr rfl)), hhi]

theorem holdsWord_store (hram : s.AllRam (s.accessBytes .word seg off)) (v : Word) :
    (s.store .word seg off v).HoldsWord seg off v := by
  obtain ⟨hlo, hhi⟩ := byteAt_storeBytes hram (lowByte v) (highByte v)
  refine .of_ram (fun x hx => ?_) (by rwa [store_cfg]) (by rwa [store_cfg])
  rw [accessBytes_of_cfg (store_cfg ..)] at hx
  rw [store_cfg]
  exact hram x hx

theorem byteAt_store_other {w : Width} {x : Nat} (h : x ∉ s.accessBytes w seg off) (v : BitVec w.bits) :
    (s.store w seg off v).byteAt x = s.byteAt x :=
  (writeLoc_keeps s w (.mem seg off) v).mem x h

/-- Two words at offsets an even number apart share no byte, under both values of `SEG_WRAP` (20_memory.md R86). -/
theorem byteAddr_inj_of_even (wrap : SegWrap) {a b : Word} {i j : Nat} (heven : a.toNat % 2 = b.toNat % 2) (hi : i < 2)
    (hj : j < 2) (h : byteAddr wrap seg a i = byteAddr wrap seg b j) : a = b := by
  have hseg := seg.isLt
  have ha := a.isLt
  have hb := b.isLt
  refine BitVec.eq_of_toNat_eq ?_
  cases wrap <;> simp only [byteAddr, phys, BitVec.toNat_add, BitVec.toNat_ofNat] at h <;> omega

theorem accessBytes_word_disjoint (s : State) {a b : Word} (heven : a.toNat % 2 = b.toNat % 2) (hne : a ≠ b) {x : Nat}
    (hx : x ∈ s.accessBytes .word seg a) : x ∉ s.accessBytes .word seg b := by
  intro hx'
  obtain ⟨i, hi, rfl⟩ := exists_byteAddr_of_mem_word hx
  obtain ⟨j, hj, h⟩ := exists_byteAddr_of_mem_word hx'
  exact hne (byteAddr_inj_of_even _ heven hi hj h)

/-! ### Pushes -/

theorem push16_eq_store (s : State) (v : Word) :
    s.push16 v = (s.setReg16 .sp (s.regs.sp - 2)).store .word s.segs.ss (s.regs.sp - 2) v := rfl

theorem holdsWord_push16 (hram : s.AllRam (s.accessBytes .word s.segs.ss (s.regs.sp - 2))) (v : Word) :
    (s.push16 v).HoldsWord s.segs.ss (s.regs.sp - 2) v :=
  holdsWord_store (s := s.setReg16 .sp (s.regs.sp - 2)) hram v

theorem byteAt_push16_other {x : Nat} (h : x ∉ s.accessBytes .word s.segs.ss (s.regs.sp - 2)) (v : Word) :
    (s.push16 v).byteAt x = s.byteAt x :=
  byteAt_store_other (s := s.setReg16 .sp (s.regs.sp - 2)) (w := .word) h v

theorem foldl_push16_regs (vs : List Word) :
    ∀ s : State, (vs.foldl State.push16 s).regs = { s.regs with sp := s.regs.sp - BitVec.ofNat 16 (2 * vs.length) } := by
  induction vs with
  | nil => simp
  | cons v vs ih =>
    intro s
    rw [List.foldl_cons, ih, push16_regs]
    have hsp : s.regs.sp - 2 - BitVec.ofNat 16 (2 * vs.length) = s.regs.sp - BitVec.ofNat 16 (2 * (vs.length + 1)) := by
      rw [← sub_word_sub_two, BitVec.sub_sub, BitVec.sub_sub, BitVec.add_comm]
    exact congrArg (fun x => { s.regs with sp := x }) hsp

theorem foldl_push16_keeps (s : State) (vs : List Word) :
    Keeps { regs := [.sp], stores := s.pushBytes vs.length } false s (vs.foldl State.push16 s) :=
  pushes_keeps vs (List.mem_singleton_self _) (List.Subset.refl _)

theorem foldl_push16_segs (vs : List Word) (s : State) : (vs.foldl State.push16 s).segs = s.segs := by
  induction vs generalizing s with
  | nil => rfl
  | cons v vs ih => rw [List.foldl_cons, ih, push16_segs]

theorem foldl_push16_ip (vs : List Word) (s : State) : (vs.foldl State.push16 s).ip = s.ip :=
  (foldl_push16_keeps s vs).ahead.1

theorem pushBytes_subset (s : State) {j k : Nat} (h : j ≤ k) : s.pushBytes j ⊆ s.pushBytes k := by
  intro x hx
  obtain ⟨i, hi, hx⟩ := List.mem_flatMap.1 hx
  exact accessBytes_subset_pushBytes s (lt_of_lt_of_le (List.mem_range.1 hi) h) hx

/-- The offsets of two of the words pushed: an even number apart and, within a segment, not the same. -/
theorem push_offsets (sp : Word) {i j : Nat} (hij : i < j) (hj : j < 2 ^ 15) :
    (sp - BitVec.ofNat 16 (2 * (i + 1))).toNat % 2 = (sp - BitVec.ofNat 16 (2 * (j + 1))).toNat % 2 ∧
      sp - BitVec.ofNat 16 (2 * (i + 1)) ≠ sp - BitVec.ofNat 16 (2 * (j + 1)) := by
  have hsp := sp.isLt
  rw [Ne, ← BitVec.toNat_inj]
  simp only [BitVec.toNat_sub, BitVec.toNat_ofNat]
  omega

/-- Words pushed one after another, at most a segment of them, into RAM: the memory holds each where its push put it, the later
pushes being below it (40_data_transfer.md R210). -/
theorem holdsWord_foldl_push16 (s : State) (vs : List Word) :
    vs.length ≤ 2 ^ 15 → s.AllRam (s.pushBytes vs.length) → ∀ p ∈ vs.zipIdx,
      (vs.foldl State.push16 s).HoldsWord s.segs.ss (s.regs.sp - BitVec.ofNat 16 (2 * (p.2 + 1))) p.1 := by
  induction vs using List.reverseRecOn with
  | nil => nofun
  | append_singleton vs v ih =>
    rw [List.length_append, List.length_singleton]
    intro hlen hram p hp
    have hcfg := (foldl_push16_keeps s vs).cfg
    have hoff : (vs.foldl State.push16 s).regs.sp - 2 = s.regs.sp - BitVec.ofNat 16 (2 * (vs.length + 1)) := by
      rw [foldl_push16_regs, sub_word_sub_two]
    have hbytes := accessBytes_of_cfg hcfg .word s.segs.ss (s.regs.sp - BitVec.ofNat 16 (2 * (vs.length + 1)))
    rw [List.foldl_concat]
    rw [List.zipIdx_append, List.mem_append] at hp
    obtain hp | hp := hp
    · have hlt : p.2 < vs.length := by simpa using List.snd_lt_of_mem_zipIdx hp
      obtain ⟨heven, hne⟩ := push_offsets s.regs.sp hlt (by omega)
      refine (ih (by omega) (fun x hx => hram x (pushBytes_subset s (by omega) hx)) p hp).of_agree (push16_cfg ..)
        fun x hx => byteAt_push16_other ?_ v
      rw [foldl_push16_segs, hoff]
      exact accessBytes_word_disjoint _ heven hne hx
    · obtain rfl : p = (v, vs.length) := by simpa using hp
      have hlast := holdsWord_push16 (s := vs.foldl State.push16 s) (v := v)
      rw [foldl_push16_segs, hoff, hbytes] at hlast
      refine hlast fun x hx => ?_
      rw [hcfg]
      exact hram x (accessBytes_subset_pushBytes s (by omega) hx)

/-! ### Pops -/

/-- A pop from what the load of SS:SP answers. -/
theorem pop16_of_load (h : load .word s.segs.ss s.regs.sp s = .ok (v, t)) :
    pop16 s = .ok (v, t.setReg16 .sp (s.regs.sp + 2)) := by
  have hpop : pop16 s = .ok (v, t.setReg16 .sp (t.regs.sp + 2)) :=
    (Op.bind_of_ok (Op.get_run s)).trans (Op.bind_of_ok h)
  obtain ⟨a, l, d, rfl⟩ := load_ok h
  exact hpop

theorem State.HoldsWord.pop16 (h : s.HoldsWord s.segs.ss s.regs.sp v) :
    pop16 s = .ok (v, s.setReg16 .sp (s.regs.sp + 2)) := pop16_of_load h.load

theorem pop16_push16 (hram : s.AllRam (s.pushBytes 1)) (v : Word) :
    pop16 (s.push16 v) = .ok (v, (s.push16 v).setReg16 .sp (s.regs.sp - 2 + 2)) := by
  have hword : (s.push16 v).HoldsWord s.segs.ss (s.regs.sp - 2) v :=
    holdsWord_push16 (fun x hx => hram x (accessBytes_subset_pushBytes s Nat.one_pos hx)) v
  have hsp : (s.push16 v).regs.sp = s.regs.sp - 2 := by rw [push16_regs]; rfl
  rw [← push16_segs s v, ← hsp] at hword
  rw [hword.pop16, hsp]

/-- The state after a pop of `v` into a register, or to be discarded. -/
def State.popped (s : State) (v : Word) : Option RegNum → State
  | some r => (s.setReg16 .sp (s.regs.sp + 2)).setReg16 r v
  | none => s.setReg16 .sp (s.regs.sp + 2)

theorem popInto_of_holdsWord (h : s.HoldsWord s.segs.ss s.regs.sp v) (r : Option RegNum) :
    popInto r s = .ok ((), s.popped v r) := by
  cases r with
  | none => exact Op.bind_of_ok h.pop16
  | some r => exact Op.bind_of_ok h.pop16

theorem popped_segs (s : State) (v : Word) (r : Option RegNum) : (s.popped v r).segs = s.segs := by
  cases r <;> rfl

theorem popped_sp {r : Option RegNum} (hr : r ≠ some .sp) (s : State) (v : Word) :
    (s.popped v r).regs.sp = s.regs.sp + 2 := by
  cases r with
  | none => rfl
  | some r =>
    have hne : RegNum.sp ≠ r := fun h => hr (congrArg some h.symm)
    exact reg16_setReg16_other (s.setReg16 .sp (s.regs.sp + 2)) v hne

/-- Pops write no memory. -/
theorem State.HoldsWord.popped (h : s.HoldsWord seg off v) (u : Word) (r : Option RegNum) :
    (s.popped u r).HoldsWord seg off v := by
  cases r <;> exact h

/-- Words held from SS:SP up are popped one after another, if none of them goes to SP (40_data_transfer.md R214). -/
theorem popAll_of_holdsWord (ps : List (Option RegNum × Word)) : ∀ {s : State}, (∀ p ∈ ps, p.1 ≠ some .sp) →
    (∀ p ∈ ps.zipIdx, s.HoldsWord s.segs.ss (s.regs.sp + BitVec.ofNat 16 (2 * p.2)) p.1.2) →
    popAll (ps.map Prod.fst) s = .ok ((), ps.foldl (fun s p => s.popped p.2 p.1) s) := by
  induction ps with
  | nil => exact fun _ _ => rfl
  | cons p ps ih =>
    intro s hr hw
    have hfirst : s.HoldsWord s.segs.ss s.regs.sp p.2 := by simpa using hw (p, 0) (by simp)
    refine (Op.bind_of_ok (popInto_of_holdsWord hfirst p.1)).trans (ih (fun q hq => hr q (List.mem_cons_of_mem _ hq)) ?_)
    rintro ⟨q, i⟩ hq
    have hmem : (q, i + 1) ∈ (p :: ps).zipIdx := by
      rw [List.zipIdx_cons', List.mem_cons]
      exact .inr (List.mem_map.2 ⟨(q, i), hq, rfl⟩)
    have hoff : s.regs.sp + 2 + BitVec.ofNat 16 (2 * i) = s.regs.sp + BitVec.ofNat 16 (2 * (i + 1)) := by
      rw [← add_word_add_two, BitVec.add_assoc, BitVec.add_assoc, BitVec.add_comm 2]
    rw [popped_segs, popped_sp (hr p List.mem_cons_self), hoff]
    exact (hw _ hmem).popped p.2 p.1

end

/-- Settles O18: a push is the store at the new SP, a pop the load at the old one, and the word stored is the word loaded. -/
theorem pushAndPop : Obligations.PushAndPop := by
  intro s t v w
  refine ⟨push16_eq_store s v, fun h => ⟨pop16_of_load h, ?_⟩,
    fun hram => ⟨_, pop16_push16 hram v, ?_, push16_segs s v, push16_flags s v, rfl⟩⟩
  · obtain ⟨a, e, d, rfl⟩ := load_ok h
    rfl
  · show (s.push16 v).regs.set .sp _ = s.regs
    rw [push16_regs, BitVec.sub_add_cancel]
    rfl

/-- Settles O19: both are eight pushes or pops, of words and into registers that the model lists. -/
theorem pushaPopa : Obligations.PushaPopa := by
  intro s
  refine ⟨⟨_, rfl, foldl_push16_regs s.pushaWords s, foldl_push16_ip s.pushaWords s,
    (foldl_push16_keeps s s.pushaWords).mem, fun hram => ?_⟩, fun w0 w1 w2 w3 w4 w5 w6 w7 hw => ?_⟩
  · have hwords := holdsWord_foldl_push16 s s.pushaWords (by simp [State.pushaWords]) hram
    simpa [State.pushaWords] using hwords
  · have hpop := popAll_of_holdsWord (s := s) (popaOrder.zip [w0, w1, w2, w3, w4, w5, w6, w7]) (by simp [popaOrder])
      (by simpa [popaOrder] using hw)
    refine runOp_of_ok (hpop.trans ?_)
    simp [popaOrder, State.popped, State.setReg16, State.setRegs, Regs.set, BitVec.add_assoc]

end Sys2Proof.Machine

/-! ## Data transfer: moves, pushes and pops, exchanges, ports -/

namespace Sys2Proof.Machine

section
variable {s t : State} {v : Word}

/-! ### Moves -/

/-- A read of an r/m operand changes at most the environment's fields. -/
theorem readRM_ok {w : Width} {rm : RM} {a : BitVec w.bits} (h : readRM w rm s = .ok (a, t)) :
    ∃ l e d, t = ((s.setAnswers l).setEvents e).setDraws d :=
  readLoc_ok (Op.get_bind_ok h)

/-- LDS and LES: both words are read before a register is written (40_data_transfer.md R229, R235). -/
theorem loadPointer_of_readPair {m : MemEA} {a b : Word} (h : readPair m s = .ok ((a, b), t)) (n : SReg) (r : RegNum) :
    loadPointer n r m s = .ok ((), (t.setReg16 r a).setSreg n b) :=
  Op.bind_of_ok h

/-! ### Exchanges and conversions -/

/-- XCHG: the register written to the place is as it was before the read (40_data_transfer.md R221). -/
theorem exec_xchgRmReg_of_read {w : Width} {rm : RM} {a : BitVec w.bits} (h : readRM w rm s = .ok (a, t)) (r : RegNum) :
    exec (.xchgRmReg w rm r) s = .next ((t.writeLoc w (s.locate rm) (s.reg w r)).setReg w r a) := by
  have hnext : exec (.xchgRmReg w rm r) s = .next ((t.writeLoc w (s.locate rm) (t.reg w r)).setReg w r a) :=
    runOp_of_ok ((Op.bind_of_ok (Op.get_run s)).trans (Op.bind_of_ok h))
  obtain ⟨l, e, d, rfl⟩ := readRM_ok h
  exact hnext

/-- The bits of a high byte, as SAHF reads them from AH. -/
theorem getLsbD_zext16_highByte (v : Word) {i : Nat} (hi : i < 8) : (zext16 (highByte v)).getLsbD i = v.getLsbD (8 + i) := by
  simp [zext16, highByte, hi, show i < 16 by omega]

theorem exec_sahf (s : State) : exec .sahf s = .next (s.setFlags { s.flags with
    sf := s.regs.ax.getLsbD 15, zf := s.regs.ax.getLsbD 14, af := s.regs.ax.getLsbD 12, pf := s.regs.ax.getLsbD 10,
    cf := s.regs.ax.getLsbD 8 }) := by
  have hbit : ∀ {i}, i < 8 → (zext16 (s.reg8 .ah)).getLsbD i = s.regs.ax.getLsbD (8 + i) :=
    getLsbD_zext16_highByte s.regs.ax
  show Host.Outcome.next (s.setFlags _) = _
  simp only [Flags.ofWord, hbit, Nat.reduceLT, Nat.reduceAdd]

theorem exec_cwd (s : State) : exec .cwd s = .next (s.setReg16 .r2 (if s.regs.ax.getLsbD 15 then 0xFFFF else 0)) := by
  rw [← BitVec.msb_eq_getLsbD_last s.regs.ax]
  rfl

/-! ### Pushes and pops -/

theorem pushReg_eq_of_own {r : RegNum} (h : ¬ (r = .r4 ∧ s.cfg.pushSp = .new)) : s.pushReg r = s.push16 (s.reg16 r) := by
  unfold State.pushReg
  split
  · rename_i hnew
    exact absurd ⟨rfl, hnew⟩ h
  · rfl

theorem pushReg_sp_of_new (h : s.cfg.pushSp = .new) : s.pushReg .r4 = s.push16 (s.regs.sp - 2) := by
  unfold State.pushReg
  rw [h]

/-- POP of a segment register, from the word at SS:SP (40_data_transfer.md R217). -/
theorem popSreg_of_load (h : load .word s.segs.ss s.regs.sp s = .ok (v, t)) (n : SReg) :
    popSreg n s = .ok ((), ((t.setReg16 .sp (s.regs.sp + 2)).setSreg n v).shadow) :=
  Op.bind_of_ok (pop16_of_load h)

/-! ### Ports -/

theorem answer_of_cons {a : Word} {rest : List Word} (h : s.answers = a :: rest) : answer s = .ok (a, s.setAnswers rest) := by
  unfold answer
  rw [h]

/-- With no answer left, the value is free (20_memory.md R95). -/
theorem answer_of_nil (h : s.answers = []) : answer s = .ok (s.drawn, s.drew) := by
  unfold answer
  rw [h]
  rfl

/-- IN takes the answer, puts the access on the trace and writes AL or AX (40_data_transfer.md R224, R225). -/
theorem inPort_of_answer {a : Word} (h : answer s = .ok (a, t)) (w : Width) (port : Word) :
    inPort w port s =
      .ok ((), (t.record (.ioRead port w (portWord w (portValue w a)))).setReg w acc (portValue w a)) := by
  have hread : ioRead w port s = .ok (portValue w a, t.record (.ioRead port w (portWord w (portValue w a)))) :=
    Op.bind_of_ok h
  exact Op.bind_of_ok hread

end

/-! ### The statements -/

/-- Settles O11: each of these is one write, of what the state holds. -/
theorem movWrites : Obligations.MovWrites :=
  fun _ _ _ _ _ _ _ _ => ⟨rfl, rfl, rfl, rfl, rfl, rfl, rfl⟩

/-- Settles O12: each form goes on from its read to its write. -/
theorem movReads : Obligations.MovReads :=
  fun _ _ _ _ r _ _ _ =>
    ⟨fun _ h => runOp_of_ok (Op.bind_of_ok h), fun _ h => runOp_of_ok (Op.bind_of_ok h),
      fun _ h => runOp_of_ok (Op.bind_of_ok h), fun _ h => runOp_of_ok (Op.bind_of_ok h),
      fun _ _ h => ⟨runOp_of_ok (loadPointer_of_readPair h .ds r), runOp_of_ok (loadPointer_of_readPair h .es r)⟩, rfl⟩

/-- Settles O14, instruction by instruction. -/
theorem exchangesAndConversions : Obligations.ExchangesAndConversions :=
  fun s _ _ _ r => ⟨fun _ h => exec_xchgRmReg_of_read h r, rfl, rfl, exec_cwd s, rfl, exec_sahf s, rfl⟩

/-- Settles O16: PUSH SP by the value of PUSH_SP_VALUE, every other form by the word that it names. -/
theorem pushResults : Obligations.PushResults := by
  intro s t r m v b
  refine ⟨fun h => ?_, fun h => ?_, fun a h => runOp_of_ok (Op.bind_of_ok h), rfl, rfl, rfl, rfl, rfl, rfl, rfl⟩
  · rw [← pushReg_eq_of_own h]
    exact ⟨rfl, rfl⟩
  · rw [← pushReg_sp_of_new h]
    exact ⟨rfl, rfl⟩

/-- Settles O17: every form goes on from `pop16` to its write. -/
theorem popResults : Obligations.PopResults := by
  intro s t v r rm h
  have hpop := pop16_of_load h
  refine ⟨runOp_of_ok (Op.bind_of_ok hpop), runOp_of_ok ((Op.bind_of_ok (Op.get_run s)).trans (Op.bind_of_ok hpop)),
    fun i n hi => ?_, runOp_of_ok (Op.bind_of_ok hpop)⟩
  have hseg : exec i s = runOp (popSreg n) s := by
    simp only [List.mem_cons, Prod.mk.injEq, List.not_mem_nil, or_false] at hi
    obtain ⟨rfl, rfl⟩ | ⟨rfl, rfl⟩ | ⟨rfl, rfl⟩ := hi <;> rfl
  exact hseg.trans (runOp_of_ok (popSreg_of_load h n))

/-- Settles O20: OUT is one event, and IN reads its port through `inPort`. -/
theorem portAccesses : Obligations.PortAccesses := by
  intro s b a rest
  have hin : ∀ {w : Width} {i : Instr} {port : Word},
      (i, port) ∈ [(Instr.inImm w b, b.setWidth 16), (.inDx w, s.regs.dx)] → exec i s = runOp (inPort w port) s := by
    intro w i port hi
    simp only [List.mem_cons, Prod.mk.injEq, List.not_mem_nil, or_false] at hi
    obtain ⟨rfl, rfl⟩ | ⟨rfl, rfl⟩ := hi <;> rfl
  refine ⟨rfl, rfl, rfl, rfl, fun i port hi => ⟨fun h => ?_, fun h => ?_⟩, fun i port hi => ⟨fun h => ?_, fun h => ?_⟩⟩
  · exact (hin hi).trans (runOp_of_ok (inPort_of_answer (answer_of_cons h) .word port))
  · exact (hin hi).trans (runOp_of_ok (inPort_of_answer (answer_of_nil h) .word port))
  · exact (hin hi).trans (runOp_of_ok (inPort_of_answer (answer_of_cons h) .byte port))
  · exact (hin hi).trans (runOp_of_ok (inPort_of_answer (answer_of_nil h) .byte port))

end Sys2Proof.Machine

/-! ## Arithmetic: operations on values, and the forms that run them -/

namespace Sys2Proof.Machine

section
variable {s t u : State} {w : Width} {rm : RM} {op : BinOp}

/-! ### What a read of an operand leaves as it was -/

theorem readRM_regs {a : BitVec w.bits} (h : readRM w rm s = .ok (a, t)) : t.regs = s.regs := by
  obtain ⟨l, e, d, rfl⟩ := readRM_ok h
  rfl

theorem readRM_flags {a : BitVec w.bits} (h : readRM w rm s = .ok (a, t)) : t.flags = s.flags := by
  obtain ⟨l, e, d, rfl⟩ := readRM_ok h
  rfl

theorem readRM_mem {a : BitVec w.bits} (h : readRM w rm s = .ok (a, t)) : t.mem = s.mem := by
  obtain ⟨l, e, d, rfl⟩ := readRM_ok h
  rfl

theorem reg_of_regs_eq (h : t.regs = s.regs) (w : Width) (r : RegNum) : t.reg w r = s.reg w r := by
  cases w <;> simp only [State.reg, State.reg8, State.reg16, h]

theorem readRM_reg {a : BitVec w.bits} (h : readRM w rm s = .ok (a, t)) (r : RegNum) : t.reg w r = s.reg w r :=
  reg_of_regs_eq (readRM_regs h) w r

/-- A register operand can always be read. -/
theorem readRM_ofReg (w : Width) (r : RegNum) (s : State) : readRM w (.reg r) s = .ok (s.reg w r, s) := rfl

/-! ### Operations on values: the result and the flags, from the flags `f` before -/

section
variable {f : Flags}

theorem addOp_run (w : Width) (h : t.flags = f) (a b : BitVec w.bits) :
    addOp w a b t = .ok (a + b, t.setFlags (f.add a b false)) := by
  have hrun : addOp w a b t = .ok (addResult a b false, t.setFlags (t.flags.add a b false)) := rfl
  rw [hrun, h, addResult_eq]
  simp

theorem adcOp_run (w : Width) (h : t.flags = f) (a b : BitVec w.bits) :
    adcOp w a b t = .ok (a + b + BitVec.ofNat w.bits f.cf.toNat, t.setFlags (f.add a b f.cf)) := by
  have hrun : adcOp w a b t = .ok (addResult a b t.flags.cf, t.setFlags (t.flags.add a b t.flags.cf)) := rfl
  rw [hrun, h, addResult_eq]

theorem subOp_run (w : Width) (h : t.flags = f) (a b : BitVec w.bits) :
    subOp w a b t = .ok (a - b, t.setFlags (f.sub a b false)) := by
  have hrun : subOp w a b t = .ok (subResult a b false, t.setFlags (t.flags.sub a b false)) := rfl
  rw [hrun, h, subResult_eq]
  simp

theorem sbbOp_run (w : Width) (h : t.flags = f) (a b : BitVec w.bits) :
    sbbOp w a b t = .ok (a - b - BitVec.ofNat w.bits f.cf.toNat, t.setFlags (f.sub a b f.cf)) := by
  have hrun : sbbOp w a b t = .ok (subResult a b t.flags.cf, t.setFlags (t.flags.sub a b t.flags.cf)) := rfl
  rw [hrun, h, subResult_eq]

theorem incOp_run (w : Width) (h : t.flags = f) (a : BitVec w.bits) :
    incOp w a t = .ok (a + 1, t.setFlags { f.add a 1 false with cf := f.cf }) := by
  have hrun : incOp w a t = .ok (addResult a 1 false, t.setFlags { t.flags.add a 1 false with cf := t.flags.cf }) := rfl
  rw [hrun, h, addResult_eq]
  simp

theorem decOp_run (w : Width) (h : t.flags = f) (a : BitVec w.bits) :
    decOp w a t = .ok (a - 1, t.setFlags { f.sub a 1 false with cf := f.cf }) := by
  have hrun : decOp w a t = .ok (subResult a 1 false, t.setFlags { t.flags.sub a 1 false with cf := t.flags.cf }) := rfl
  rw [hrun, h, subResult_eq]
  simp

theorem negOp_run (w : Width) (h : t.flags = f) (a : BitVec w.bits) : negOp w a t = .ok (-a, t.setFlags (f.sub 0 a false)) := by
  have hrun : negOp w a t = .ok (0 - a, t.setFlags (f.sub 0 a false)) := subOp_run w h 0 a
  rwa [zero_sub] at hrun

theorem notOp_run (w : Width) (a : BitVec w.bits) (t : State) : notOp w a t = .ok (~~~a, t) := rfl

end

/-! ### The forms: an operand that can be read, an operation that goes on, and what is written (41_arithmetic.md R258) -/

/-- The shape that the r/m destinations share. -/
theorem modifyRM_next {o : BitVec w.bits → Op (BitVec w.bits)} {a v : BitVec w.bits} (h : readRM w rm s = .ok (a, t))
    (ho : o a t = .ok (v, u)) : runOp (modifyRM o rm) s = .next (u.writeLoc w (s.locate rm) v) :=
  runOp_of_ok ((Op.bind_of_ok (Op.get_run s)).trans ((Op.bind_of_ok (Op.get_bind_ok h)).trans (Op.bind_of_ok ho)))

theorem binRmReg_next {a v : BitVec w.bits} {r : RegNum} (h : readRM w rm s = .ok (a, t))
    (hop : op w a (s.reg w r) t = .ok (v, u)) : runOp (binRmReg op w rm r) s = .next (u.writeLoc w (s.locate rm) v) := by
  rw [← readRM_reg h] at hop
  exact modifyRM_next (o := fun a => do op w a ((← get).reg w r)) h hop

theorem binRegRm_next {b v : BitVec w.bits} {r : RegNum} (h : readRM w rm s = .ok (b, t))
    (hop : op w (s.reg w r) b t = .ok (v, u)) : runOp (binRegRm op w r rm) s = .next (u.setReg w r v) := by
  rw [← readRM_reg h] at hop
  exact runOp_of_ok ((Op.bind_of_ok h).trans ((Op.bind_of_ok (Op.get_run t)).trans (Op.bind_of_ok hop)))

theorem binRmVal_next {a b v : BitVec w.bits} (h : readRM w rm s = .ok (a, t)) (hop : op w a b t = .ok (v, u)) :
    runOp (binRmVal op w rm b) s = .next (u.writeLoc w (s.locate rm) v) :=
  modifyRM_next (o := fun a => op w a b) h hop

theorem testRmReg_next {a v : BitVec w.bits} {r : RegNum} (h : readRM w rm s = .ok (a, t))
    (hop : op w a (s.reg w r) t = .ok (v, u)) : runOp (testRmReg op w rm r) s = .next u := by
  rw [← readRM_reg h] at hop
  exact runOp_of_ok ((Op.bind_of_ok h).trans ((Op.bind_of_ok (Op.get_run t)).trans (Op.bind_of_ok hop)))

theorem testRegRm_next {b v : BitVec w.bits} {r : RegNum} (h : readRM w rm s = .ok (b, t))
    (hop : op w (s.reg w r) b t = .ok (v, u)) : runOp (testRegRm op w r rm) s = .next u := by
  rw [← readRM_reg h] at hop
  exact runOp_of_ok ((Op.bind_of_ok h).trans ((Op.bind_of_ok (Op.get_run t)).trans (Op.bind_of_ok hop)))

theorem testRmVal_next {a b v : BitVec w.bits} (h : readRM w rm s = .ok (a, t)) (hop : op w a b t = .ok (v, u)) :
    runOp (testRmVal op w rm b) s = .next u :=
  runOp_of_ok ((Op.bind_of_ok h).trans (Op.bind_of_ok hop))

theorem unary_next {op : (w : Width) → BitVec w.bits → Op (BitVec w.bits)} {a v : BitVec w.bits}
    (h : readRM w rm s = .ok (a, t)) (hop : op w a t = .ok (v, u)) :
    runOp (unary op w rm) s = .next (u.writeLoc w (s.locate rm) v) :=
  modifyRM_next h hop

end

/-! ### The statements -/

/-- Settles O21: each form on its operation, the flags and the register being those of before the read. -/
theorem addSubWithRegister : Obligations.AddSubWithRegister := by
  intro s t w rm r a h
  have hf := readRM_flags h
  exact ⟨binRmReg_next h (addOp_run w hf a _), binRmReg_next h (adcOp_run w hf a _), binRmReg_next h (subOp_run w hf a _),
    binRmReg_next h (sbbOp_run w hf a _), testRmReg_next h (subOp_run w hf a _), binRegRm_next h (addOp_run w hf _ a),
    binRegRm_next h (adcOp_run w hf _ a), binRegRm_next h (subOp_run w hf _ a), binRegRm_next h (sbbOp_run w hf _ a),
    testRegRm_next h (subOp_run w hf _ a)⟩

/-- Settles O22: the immediate forms of a byte and of a word, and those of the accumulator, which can always be read. -/
theorem addSubWithImmediate : Obligations.AddSubWithImmediate := by
  intro s t rm b v
  have hal := readRM_ofReg .byte .al s
  have hax := readRM_ofReg .word .ax s
  refine ⟨fun x h => ?_, fun y h => ?_, ?_⟩
  · have hf := readRM_flags h
    exact ⟨binRmVal_next h (addOp_run .byte hf x b), binRmVal_next h (adcOp_run .byte hf x b),
      binRmVal_next h (subOp_run .byte hf x b), binRmVal_next h (sbbOp_run .byte hf x b),
      testRmVal_next h (subOp_run .byte hf x b)⟩
  · have hf := readRM_flags h
    exact ⟨binRmVal_next h (addOp_run .word hf y v), binRmVal_next h (addOp_run .word hf y (sext16 b)),
      binRmVal_next h (adcOp_run .word hf y v), binRmVal_next h (adcOp_run .word hf y (sext16 b)),
      binRmVal_next h (subOp_run .word hf y v), binRmVal_next h (subOp_run .word hf y (sext16 b)),
      binRmVal_next h (sbbOp_run .word hf y v), binRmVal_next h (sbbOp_run .word hf y (sext16 b)),
      testRmVal_next h (subOp_run .word hf y v), testRmVal_next h (subOp_run .word hf y (sext16 b))⟩
  · exact ⟨binRmVal_next hal (addOp_run .byte rfl _ b), binRmVal_next hax (addOp_run .word rfl _ v),
      binRmVal_next hal (adcOp_run .byte rfl _ b), binRmVal_next hax (adcOp_run .word rfl _ v),
      binRmVal_next hal (subOp_run .byte rfl _ b), binRmVal_next hax (subOp_run .word rfl _ v),
      binRmVal_next hal (sbbOp_run .byte rfl _ b), binRmVal_next hax (sbbOp_run .word rfl _ v),
      testRmVal_next hal (subOp_run .byte rfl _ b), testRmVal_next hax (subOp_run .word rfl _ v)⟩

/-- Settles O25: one form, `unary`, on each operation. -/
theorem incDecNegNot : Obligations.IncDecNegNot := by
  intro s t w rm r a h
  have hf := readRM_flags h
  have hreg := readRM_ofReg .word r s
  exact ⟨unary_next h (incOp_run w hf a), unary_next h (decOp_run w hf a), unary_next h (negOp_run w hf a),
    unary_next h (notOp_run w a t), unary_next hreg (incOp_run .word rfl _), unary_next hreg (decOp_run .word rfl _)⟩

end Sys2Proof.Machine

/-! ## Arithmetic: what a comparison says -/

namespace Sys2Proof.Machine

section
variable {n : Nat}

/-! ### The conditions in pairs -/

/-- The condition of the other jump of a pair (44_control_transfer.md R380). -/
def Cond.opposite : Cond → Cond
  | .o => .no | .no => .o | .b => .nb | .nb => .b | .z => .nz | .nz => .z | .be => .nbe | .nbe => .be
  | .s => .ns | .ns => .s | .p => .np | .np => .p | .l => .nl | .nl => .l | .le => .nle | .nle => .le

theorem Cond.holds_opposite (f : Flags) (c : Cond) : Cond.holds f c.opposite = !Cond.holds f c := by
  cases c <;> simp [Cond.holds, Cond.opposite, bne]

theorem Cond.holds_opposite_iff {f : Flags} {c : Cond} {p : Prop} (h : Cond.holds f c = true ↔ p) :
    Cond.holds f c.opposite = true ↔ ¬ p := by
  rw [Cond.holds_opposite, ← h, Bool.not_eq_true', Bool.not_eq_true]

/-! ### The flags of a difference -/

theorem Flags.sub_zf_iff (f : Flags) (a b : BitVec n) : (f.sub a b false).zf = true ↔ a = b := by
  rw [(f.sub_describes a b false).zf, ← sub_eq_zero (a := a)]
  simp

theorem Flags.sub_cf_iff (f : Flags) (a b : BitVec n) : (f.sub a b false).cf = true ↔ a.toNat < b.toNat := by
  simp [Flags.sub]

/-- A wrapped difference has the sign of the exact one, or the other sign where it does not fit. -/
theorem neg_iff_not_fits_iff_lt {m : Nat} {a b : Int} (ha : -m ≤ a ∧ a < m) (hb : -m ≤ b ∧ b < m) :
    ¬ ((a - b).bmod (2 * m) < 0 ↔ a - b ≠ (a - b).bmod (2 * m)) ↔ a < b := by
  rw [bmod_eq_of_near (by omega) (by omega)]
  split
  · omega
  · split <;> omega

/-- SF ≠ OF is the signed order (44_control_transfer.md R380). -/
theorem Flags.sub_sf_ne_ofl_iff (hn : 0 < n) (f : Flags) (a b : BitVec n) :
    ((f.sub a b false).sf != (f.sub a b false).ofl) = true ↔ a.toInt < b.toInt := by
  have hsf := (f.sub_describes a b false).sf
  have hofl := f.sub_ofl_iff hn a b false
  rw [toInt_sub_borrow] at hsf hofl
  simp only [Bool.toNat_false, Int.natCast_zero, Int.sub_zero] at hsf hofl
  rw [bne_iff_ne, ne_eq, Bool.eq_iff_iff, hsf, hofl, two_pow_eq_two_mul hn]
  exact neg_iff_not_fits_iff_lt (toInt_bounds a) (toInt_bounds b)

/-! ### The conditions after a difference -/

theorem Cond.holds_be_sub (f : Flags) (a b : BitVec n) : Cond.holds (f.sub a b false) .be = true ↔ a.toNat ≤ b.toNat := by
  rw [Cond.holds, Bool.or_eq_true, f.sub_cf_iff, f.sub_zf_iff, ← BitVec.toNat_inj, Nat.le_iff_lt_or_eq]

theorem Cond.holds_le_sub (hn : 0 < n) (f : Flags) (a b : BitVec n) :
    Cond.holds (f.sub a b false) .le = true ↔ a.toInt ≤ b.toInt := by
  rw [Cond.holds, Bool.or_eq_true, f.sub_sf_ne_ofl_iff hn, f.sub_zf_iff, ← BitVec.toInt_inj, Int.le_iff_eq_or_lt]

end

theorem width_bits_pos (w : Width) : 0 < w.bits := by
  cases w <;> decide

/-- Settles O24: the conditions JZ, JB, JBE, JL and JLE after a difference, and their opposites. -/
theorem compareOrdersOperands : Obligations.CompareOrdersOperands := by
  intro s t w rm r a h
  have hz := s.flags.sub_zf_iff a (s.reg w r)
  have hb := s.flags.sub_cf_iff a (s.reg w r)
  have hbe := Cond.holds_be_sub s.flags a (s.reg w r)
  have hl := s.flags.sub_sf_ne_ofl_iff (width_bits_pos w) a (s.reg w r)
  have hle := Cond.holds_le_sub (width_bits_pos w) s.flags a (s.reg w r)
  exact ⟨t.setFlags (s.flags.sub a (s.reg w r) false), testRmReg_next h (subOp_run w (readRM_flags h) a _),
    (readRM_regs h : t.regs = s.regs), (readRM_mem h : t.mem = s.mem),
    hz, Cond.holds_opposite_iff (c := .z) hz,
    hb, (Cond.holds_opposite_iff (c := .b) hb).trans Nat.not_lt,
    hbe, (Cond.holds_opposite_iff hbe).trans Nat.not_le,
    hl, (Cond.holds_opposite_iff (c := .l) hl).trans Int.not_lt,
    hle, (Cond.holds_opposite_iff hle).trans Int.not_le⟩

end Sys2Proof.Machine

/-! ## Arithmetic: products and quotients -/

namespace Sys2Proof.Machine

/-! ### What arithmetic leaves alone -/

/-- The control flags, memory, the segment registers, IP and the hidden state are the same. (`Keeps` compares memory byte by
byte; here the list itself is the same.) -/
structure Untouched (s t : State) : Prop where
  control : SameControl s.flags t.flags
  mem : t.mem = s.mem
  segs : t.segs = s.segs
  ip : t.ip = s.ip
  hidden : SameHidden s t

section
variable {s t u : State} {w : Width} {rm : RM}

theorem Untouched.refl (s : State) : Untouched s s :=
  ⟨⟨rfl, rfl, rfl⟩, rfl, rfl, rfl, ⟨rfl, rfl, rfl, rfl, rfl, rfl, rfl, rfl, rfl, rfl, rfl⟩⟩

theorem Untouched.frame (h : Untouched s t) :
    SameControl s.flags t.flags ∧ t.mem = s.mem ∧ t.segs = s.segs ∧ t.ip = s.ip ∧ SameHidden s t :=
  ⟨h.control, h.mem, h.segs, h.ip, h.hidden⟩

theorem Untouched.ofEnv (h : Untouched s t) (l : List Word) (e : List Event) (d : Nat) :
    Untouched s (((t.setAnswers l).setEvents e).setDraws d) :=
  { h with hidden := { h.hidden with } }

theorem Untouched.of_readRM {a : BitVec w.bits} (h : readRM w rm s = .ok (a, t)) : Untouched s t := by
  obtain ⟨l, e, d, rfl⟩ := readRM_ok h
  exact (Untouched.refl s).ofEnv l e d

theorem Untouched.drew (h : Untouched s t) : Untouched s t.drew := h.ofEnv t.answers t.events (t.draws + 1)

theorem Untouched.setReg16 (h : Untouched s t) (r : RegNum) (v : Word) : Untouched s (t.setReg16 r v) :=
  { h with hidden := { h.hidden with } }

theorem Untouched.setReg8 (h : Untouched s t) (r : RegNum) (v : Byte) : Untouched s (t.setReg8 r v) := by
  obtain ⟨x, hx⟩ := setReg8_eq t r v
  exact hx ▸ h.setReg16 _ x

theorem Untouched.setFlags (h : Untouched s t) {f : Flags} (hf : SameControl t.flags f) : Untouched s (t.setFlags f) := by
  obtain ⟨htf, hif, hdf⟩ := h.control
  obtain ⟨htf', hif', hdf'⟩ := hf
  exact { h with control := ⟨htf'.trans htf, hif'.trans hif, hdf'.trans hdf⟩, hidden := { h.hidden with } }

theorem Flags.statusDrawn_control (f : Flags) (u : Word) : SameControl f (f.statusDrawn u) := ⟨rfl, rfl, rfl⟩

theorem Flags.product_control (f : Flags) (c : Bool) (u : Word) : SameControl f (f.product c u) := ⟨rfl, rfl, rfl⟩

/-! ### The registers of a double width -/

/-- The registers `r` with those that a product or quotient fills as in `g` (41_arithmetic.md R270 to R273). -/
def Regs.withWide (r g : Regs) : Width → Regs
  | .byte => { r with ax := g.ax }
  | .word => { r with ax := g.ax, dx := g.dx }

/-- Of the registers only AX, or AX and DX, are written; status flags may be. -/
structure WideOnly (w : Width) (s u : State) : Prop extends Untouched s u where
  regs : u.regs = s.regs.withWide u.regs w

theorem WideOnly.rest (h : WideOnly w s u) :
    u.mem = s.mem ∧ u.segs = s.segs ∧ u.ip = s.ip ∧ SameControl s.flags u.flags :=
  ⟨h.mem, h.segs, h.ip, h.control⟩

theorem dividend_of_regs_eq (h : t.regs = s.regs) (w : Width) : t.dividend w = s.dividend w := by
  cases w <;> simp only [State.dividend, State.reg16, h]

theorem extract_append_setWidth (p : BitVec 32) : p.extractLsb' 16 16 ++ p.setWidth 16 = p := by
  rw [BitVec.setWidth_eq_extractLsb' (by decide)]
  exact (BitVec.extractLsb'_append_extractLsb'_eq_extractLsb' rfl).trans BitVec.extractLsb'_eq_self

/-! ### Products -/

theorem setProduct_of_read {b : BitVec w.bits} (h : readRM w rm s = .ok (b, t)) (p : BitVec 32) (c : Bool) :
    ∃ u, setProduct w p c t = .ok ((), u) ∧ u.dividend w = p.setWidth (2 * w.bits) ∧ u.flags.cf = c ∧ u.flags.ofl = c ∧
      WideOnly w s u := by
  have hdrew := (Untouched.of_readRM h).drew
  have hregs := readRM_regs h
  cases w with
  | byte =>
    refine ⟨_, rfl, rfl, rfl, rfl, (hdrew.setReg16 .ax _).setFlags (Flags.product_control _ c t.drawn), ?_⟩
    rw [← hregs]
    rfl
  | word =>
    refine ⟨_, rfl, ?_, rfl, rfl, ((hdrew.setReg16 .ax _).setReg16 .dx _).setFlags (Flags.product_control _ c t.drawn), ?_⟩
    · exact (extract_append_setWidth p).trans p.setWidth_eq.symm
    · rw [← hregs]
      rfl

theorem mulOp_of_read {b : BitVec w.bits} (h : readRM w rm s = .ok (b, t)) :
    mulOp w rm s = setProduct w (BitVec.ofNat 32 ((s.reg w acc).toNat * b.toNat))
      (decide (2 ^ w.bits ≤ (s.reg w acc).toNat * b.toNat)) t := by
  rw [← readRM_reg h]
  exact (Op.bind_of_ok h).trans (Op.bind_of_ok (Op.get_run t))

theorem imulOp_of_read {b : BitVec w.bits} (h : readRM w rm s = .ok (b, t)) :
    imulOp w rm s = setProduct w (BitVec.ofInt 32 ((s.reg w acc).toInt * b.toInt))
      (decide ((BitVec.ofInt w.bits ((s.reg w acc).toInt * b.toInt)).toInt ≠ (s.reg w acc).toInt * b.toInt)) t := by
  rw [← readRM_reg h]
  exact (Op.bind_of_ok h).trans (Op.bind_of_ok (Op.get_run t))

theorem two_mul_bits_le (w : Width) : 2 * w.bits ≤ 32 := by
  cases w <;> decide

theorem setWidth_ofInt {k m : Nat} (h : k ≤ m) (p : Int) : (BitVec.ofInt m p).setWidth k = BitVec.ofInt k p := by
  refine BitVec.eq_of_toInt_eq ?_
  rw [← BitVec.signExtend_eq_setWidth_of_le _ h, BitVec.toInt_signExtend, Nat.min_eq_left h, BitVec.toInt_ofInt,
    BitVec.toInt_ofInt, Int.bmod_bmod_of_dvd (pow_dvd_pow 2 h)]

theorem toInt_ofInt_eq_iff {n : Nat} (hn : 0 < n) (p : Int) :
    (BitVec.ofInt n p).toInt = p ↔ -2 ^ (n - 1) ≤ p ∧ p < 2 ^ (n - 1) := by
  refine ⟨fun h => ?_, fun ⟨hlo, hhi⟩ => BitVec.toInt_ofInt_eq_self hn hlo hhi⟩
  rw [← h]
  exact ⟨BitVec.le_toInt _, BitVec.toInt_lt⟩

/-- The exact product of two signed values fits the double width. -/
theorem toInt_ofInt_mul {n : Nat} (hn : 0 < n) (a b : BitVec n) :
    (BitVec.ofInt (2 * n) (a.toInt * b.toInt)).toInt = a.toInt * b.toInt := by
  have hlo := BitVec.le_toInt_mul_toInt (x := a) (y := b)
  have hhi := BitVec.toInt_mul_toInt_le (x := a) (y := b)
  have hpow : (2 : Int) ^ (n * 2 - 2) < 2 ^ (2 * n - 1) := pow_lt_pow_right₀ (by decide) (by omega)
  exact BitVec.toInt_ofInt_eq_self (by omega) (by omega) (by omega)

/-- MUL puts the exact product in the double width (41_arithmetic.md R270). -/
theorem mul_next {b : BitVec w.bits} (h : readRM w rm s = .ok (b, t)) :
    ∃ u, exec (.mul w rm) s = .next u ∧ (u.dividend w).toNat = (s.reg w acc).toNat * b.toNat ∧ u.flags.cf = u.flags.ofl ∧
      (u.flags.cf = true ↔ 2 ^ w.bits ≤ (s.reg w acc).toNat * b.toNat) ∧ WideOnly w s u := by
  obtain ⟨u, hrun, hp, hcf, hof, hu⟩ := setProduct_of_read h _ _
  refine ⟨u, runOp_of_ok ((mulOp_of_read h).trans hrun), ?_, hcf.trans hof.symm, ?_, hu⟩
  · rw [hp, BitVec.setWidth_ofNat_of_le (two_mul_bits_le w), BitVec.toNat_ofNat, Nat.mul_comm 2 w.bits]
    exact Nat.mod_eq_of_lt BitVec.toNat_mul_toNat_lt
  · rw [hcf, decide_eq_true_iff]

/-- IMUL puts the exact signed product in the double width (41_arithmetic.md R271). -/
theorem imul_next {b : BitVec w.bits} (h : readRM w rm s = .ok (b, t)) :
    ∃ u, exec (.imul w rm) s = .next u ∧ (u.dividend w).toInt = (s.reg w acc).toInt * b.toInt ∧ u.flags.cf = u.flags.ofl ∧
      (u.flags.cf = true ↔ ¬ (-2 ^ (w.bits - 1) ≤ (s.reg w acc).toInt * b.toInt ∧
        (s.reg w acc).toInt * b.toInt < 2 ^ (w.bits - 1))) ∧ WideOnly w s u := by
  obtain ⟨u, hrun, hp, hcf, hof, hu⟩ := setProduct_of_read h _ _
  refine ⟨u, runOp_of_ok ((imulOp_of_read h).trans hrun), ?_, hcf.trans hof.symm, ?_, hu⟩
  · rw [hp, setWidth_ofInt (two_mul_bits_le w)]
    exact toInt_ofInt_mul (width_bits_pos w) _ b
  · rw [hcf, decide_eq_true_iff, ← toInt_ofInt_eq_iff (width_bits_pos w)]

/-! ### Quotients -/

/-- Where a division leaves the remainder: AH or DX (41_arithmetic.md R272, R273). -/
def State.remainder (s : State) : (w : Width) → BitVec w.bits
  | .byte => s.reg8 .ah
  | .word => s.reg16 .dx

theorem setQuotient_quotient (s : State) (q r : BitVec w.bits) : (s.setQuotient w q r).reg w acc = q := by
  cases w with
  | byte => exact (reg8_setReg8_other _ r (by decide)).trans (reg8_setReg8_same s .al q)
  | word => rfl

theorem setQuotient_remainder (s : State) (q r : BitVec w.bits) : (s.setQuotient w q r).remainder w = r := by
  cases w with
  | byte => exact reg8_setReg8_same _ .ah r
  | word => rfl

theorem Untouched.setQuotient (h : Untouched s t) (q r : BitVec w.bits) : Untouched s (t.setQuotient w q r) := by
  cases w with
  | byte => exact (h.setReg8 .al q).setReg8 .ah r
  | word => exact (h.setReg16 .ax q).setReg16 .dx r

theorem setQuotient_regs (s : State) (q r : BitVec w.bits) :
    (s.setQuotient w q r).regs = s.regs.withWide (s.setQuotient w q r).regs w := by
  cases w <;> rfl

/-- A division that answers a quotient and a remainder raises no type 0. -/
theorem divideOp_of_some {res : (w : Width) → BitVec (2 * w.bits) → BitVec w.bits → Option (BitVec w.bits × BitVec w.bits)}
    {d q r : BitVec w.bits} (h : readRM w rm s = .ok (d, t)) (hres : res w (s.dividend w) d = some (q, r)) :
    ∃ u, runOp (divideOp res w rm) s = .next u ∧ u.reg w acc = q ∧ u.remainder w = r ∧ WideOnly w s u := by
  have hrun : divideOp res w rm s =
      .ok ((), (t.drew.setFlags (t.drew.flags.statusDrawn t.drawn)).setQuotient w q r) := by
    refine (Op.bind_of_ok h).trans ((Op.bind_of_ok (Op.get_run t)).trans ((Op.bind_of_ok (draw_run t)).trans
      ((Op.bind_of_ok (Op.update_run _ _)).trans ?_)))
    rw [dividend_of_regs_eq (readRM_regs h), hres]
    rfl
  refine ⟨_, runOp_of_ok hrun, setQuotient_quotient _ q r, setQuotient_remainder _ q r,
    ((Untouched.of_readRM h).drew.setFlags (Flags.statusDrawn_control _ t.drawn)).setQuotient q r, ?_⟩
  rw [← readRM_regs h]
  exact setQuotient_regs _ q r

/-- DIV where the quotient fits (41_arithmetic.md R272). -/
theorem div_next {d : BitVec w.bits} (h : readRM w rm s = .ok (d, t)) (hd : d ≠ 0)
    (hq : (s.dividend w).toNat / d.toNat < 2 ^ w.bits) :
    ∃ u, exec (.div w rm) s = .next u ∧
      (s.dividend w).toNat = (u.reg w acc).toNat * d.toNat + (u.remainder w).toNat ∧ (u.remainder w).toNat < d.toNat ∧
      WideOnly w s u := by
  have hd0 : d.toNat ≠ 0 := fun h0 => hd (BitVec.eq_of_toNat_eq h0)
  have hr : (s.dividend w).toNat % d.toNat < d.toNat := Nat.mod_lt _ (Nat.pos_of_ne_zero hd0)
  have hres : divResult w (s.dividend w) d = some (BitVec.ofNat w.bits ((s.dividend w).toNat / d.toNat),
      BitVec.ofNat w.bits ((s.dividend w).toNat % d.toNat)) := by
    rw [divResult, if_neg hd0, if_neg (Nat.not_le.2 hq)]
  obtain ⟨u, hexec, hquot, hrem, hu⟩ := divideOp_of_some h hres
  rw [← BitVec.toNat_inj, BitVec.toNat_ofNat, Nat.mod_eq_of_lt] at hquot hrem
  · exact ⟨u, hexec, by rw [hquot, hrem, Nat.div_add_mod'], hrem ▸ hr, hu⟩
  · exact hr.trans d.isLt
  · exact hq

theorem zero_le_tmod_mul_self (n d : Int) : 0 ≤ n.tmod d * n := by
  rcases Int.le_total 0 n with hn | hn
  · exact Int.mul_nonneg (Int.tmod_nonneg d hn) hn
  · have hneg : 0 ≤ -n := by omega
    rw [← Int.neg_neg n, Int.neg_tmod, Int.neg_mul_neg]
    exact Int.mul_nonneg (Int.tmod_nonneg d hneg) hneg

/-- IDIV where the quotient, rounded toward zero, fits (41_arithmetic.md R273). -/
theorem idiv_next {d : BitVec w.bits} (h : readRM w rm s = .ok (d, t)) (hd : d ≠ 0)
    (hq : -(2 ^ (w.bits - 1) - 1) ≤ (s.dividend w).toInt.tdiv d.toInt ∧
      (s.dividend w).toInt.tdiv d.toInt ≤ 2 ^ (w.bits - 1) - 1) :
    ∃ u, exec (.idiv w rm) s = .next u ∧
      (s.dividend w).toInt = (u.reg w acc).toInt * d.toInt + (u.remainder w).toInt ∧
      (u.remainder w).toInt.natAbs < d.toInt.natAbs ∧ 0 ≤ (u.remainder w).toInt * (s.dividend w).toInt ∧ WideOnly w s u := by
  obtain ⟨hlo, hhi⟩ := hq
  have hd0 : d.toInt ≠ 0 := fun h0 => hd (BitVec.eq_of_toInt_eq (h0.trans BitVec.toInt_zero.symm))
  have hr : ((s.dividend w).toInt.tmod d.toInt).natAbs < d.toInt.natAbs := by
    rw [Int.natAbs_tmod]
    exact Nat.mod_lt _ (Int.natAbs_pos.2 hd0)
  have hres : idivResult w (s.dividend w) d = some (BitVec.ofInt w.bits ((s.dividend w).toInt.tdiv d.toInt),
      BitVec.ofInt w.bits ((s.dividend w).toInt.tmod d.toInt)) := by
    rw [idivResult, if_neg hd0]
    exact if_neg (by omega)
  obtain ⟨u, hexec, hquot, hrem, hu⟩ := divideOp_of_some h hres
  have hdlo := d.le_toInt
  have hdhi := d.toInt_lt
  rw [← BitVec.toInt_inj, (toInt_ofInt_eq_iff (width_bits_pos w) _).2 (by omega)] at hquot hrem
  refine ⟨u, hexec, ?_, hrem ▸ hr, hrem ▸ zero_le_tmod_mul_self _ _, hu⟩
  rw [hquot, hrem, Int.tdiv_mul_add_tmod]

end

/-! ### The statements -/

/-- Settles O31: the two widths of `mul_next` and `imul_next`. -/
theorem productResults : Obligations.ProductResults := by
  intro s t rm
  refine ⟨fun b h => ⟨?_, ?_⟩, fun v h => ⟨?_, ?_⟩⟩
  · obtain ⟨u, hexec, hprod, hof, hcf, hu⟩ := mul_next h
    exact ⟨u, hexec, hu.regs, hprod, hof, hcf, hu.rest⟩
  · obtain ⟨u, hexec, hprod, hof, hcf, hu⟩ := imul_next h
    exact ⟨u, hexec, hu.regs, hprod, hof, hcf, hu.rest⟩
  · obtain ⟨u, hexec, hprod, hof, hcf, hu⟩ := mul_next h
    exact ⟨u, hexec, hu.regs, hprod, hof, hcf, hu.rest⟩
  · obtain ⟨u, hexec, hprod, hof, hcf, hu⟩ := imul_next h
    exact ⟨u, hexec, hu.regs, hprod, hof, hcf, hu.rest⟩

/-- Settles O32: the two widths of `div_next` and `idiv_next`. -/
theorem quotientResults : Obligations.QuotientResults := by
  intro s t rm
  refine ⟨fun d h hd => ⟨fun hq => ?_, fun hq => ?_⟩, fun d h hd => ⟨fun hq => ?_, fun hq => ?_⟩⟩
  · obtain ⟨u, hexec, hdiv, hrem, hu⟩ := div_next h hd hq
    exact ⟨u, hexec, hu.regs, hdiv, hrem, hu.rest⟩
  · obtain ⟨u, hexec, hdiv, hrem, hsign, hu⟩ := idiv_next h hd hq
    exact ⟨u, hexec, hu.regs, hdiv, hrem, hsign, hu.rest⟩
  · obtain ⟨u, hexec, hdiv, hrem, hu⟩ := div_next h hd hq
    exact ⟨u, hexec, hu.regs, hdiv, hrem, hu.rest⟩
  · obtain ⟨u, hexec, hdiv, hrem, hsign, hu⟩ := idiv_next h hd hq
    exact ⟨u, hexec, hu.regs, hdiv, hrem, hsign, hu.rest⟩

end Sys2Proof.Machine

/-! ## Arithmetic: the ASCII, base and decimal adjustments -/

namespace Sys2Proof.Machine

section
variable {s t : State}

/-! ### Registers and flags -/

theorem setReg16_reg16 (s : State) (n : RegNum) : s.setReg16 n (s.reg16 n) = s := by
  cases n <;> rfl

theorem wordOf_lowByte_highByte (v : Word) : wordOf (lowByte v) (highByte v) = v := highByte_append_lowByte v

theorem setReg8_reg8 (s : State) (n : RegNum) : s.setReg8 n (s.reg8 n) = s := by
  rw [setReg8_eq_setReg16, reg8_eq]
  split <;> rw [wordOf_lowByte_highByte, setReg16_reg16]

/-- A byte register can be written with its own value after a write of another. -/
theorem setReg8_setReg8_reg8 (s : State) {n m : RegNum} (h : m ≠ n) (v : Byte) :
    (s.setReg8 n v).setReg8 m (s.reg8 m) = s.setReg8 n v := by
  rw [← reg8_setReg8_other s v h, setReg8_reg8]

theorem adjustsLow_iff (al : Byte) (f : Flags) : adjustsLow al f = true ↔ 9 < al.toNat % 16 ∨ f.af = true := by
  simp [adjustsLow]

theorem Flags.asciiAdjust_control (f : Flags) (c : Bool) (u : Word) : SameControl f (f.asciiAdjust c u) := ⟨rfl, rfl, rfl⟩

theorem Flags.decimalAdjust_control (f : Flags) (v : Byte) (a c : Bool) (u : Word) : SameControl f (f.decimalAdjust v a c u) :=
  ⟨rfl, rfl, rfl⟩

theorem Flags.baseAdjust_control (f : Flags) (v : Byte) (u : Word) : SameControl f (f.baseAdjust v u) := ⟨rfl, rfl, rfl⟩

theorem Flags.Describes.sf_eq_msb {n : Nat} {f : Flags} {v : BitVec n} (h : f.Describes v) : f.sf = v.msb :=
  Bool.eq_iff_iff.2 (h.sf.trans (msb_iff_toInt_neg v).symm)

/-! ### AAA and AAS -/

/-- The state after AAA or AAS, `adj` saying whether they adjust (41_arithmetic.md R260, R262). -/
def State.asciiAdjusted (s : State) (d c : Byte) (adj : Bool) : State :=
  ((s.drew.setReg8 .al ((if adj then s.reg8 .al + d else s.reg8 .al) &&& 0x0F)).setReg8 .ah
    (if adj then s.reg8 .ah + c else s.reg8 .ah)).setFlags (s.flags.asciiAdjust adj s.drawn)

theorem asciiAdjust_run (d c : Byte) {adj : Bool} (h : adjustsLow (s.reg8 .al) s.flags = adj) :
    asciiAdjust d c s = .ok ((), s.asciiAdjusted d c adj) := by
  refine (Op.bind_of_ok (Op.get_run s)).trans ((Op.bind_of_ok (draw_run s)).trans ?_)
  rw [Op.update_run, h]
  cases adj with
  | true => rfl
  | false =>
    have hah := setReg8_setReg8_reg8 s.drew (n := .al) (m := .ah) (by decide) (s.reg8 .al &&& 0x0F)
    rw [if_neg Bool.false_ne_true, ← hah]
    rfl

theorem asciiAdjusted_untouched (s : State) (d c : Byte) (adj : Bool) : Untouched s (s.asciiAdjusted d c adj) :=
  (((Untouched.refl s).drew.setReg8 .al _).setReg8 .ah _).setFlags (Flags.asciiAdjust_control s.flags adj s.drawn)

/-- AAA and AAS as the rules state them. -/
theorem asciiAdjust_next (d c : Byte) {adj : Bool} (h : adjustsLow (s.reg8 .al) s.flags = adj) :
    ∃ t, runOp (asciiAdjust d c) s = .next t ∧
      t.regs = ((s.setReg8 .al ((if adj then s.reg8 .al + d else s.reg8 .al) &&& 0x0F)).setReg8 .ah
        (if adj then s.reg8 .ah + c else s.reg8 .ah)).regs ∧
      t.flags.af = adj ∧ t.flags.cf = adj ∧ Untouched s t :=
  ⟨s.asciiAdjusted d c adj, runOp_of_ok (asciiAdjust_run d c h), rfl, rfl, rfl, asciiAdjusted_untouched s d c adj⟩

/-! ### AAM and AAD -/

/-- AAM divides AL by ten (41_arithmetic.md R274). -/
theorem aam_next (s : State) : ∃ t, exec .aam s = .next t ∧ t.reg8 .ah = s.reg8 .al / 10 ∧ t.reg8 .al = s.reg8 .al % 10 ∧
    t.regs = { s.regs with ax := t.regs.ax } ∧ t.flags.Describes (t.reg8 .al) ∧ Untouched s t := by
  have hal := reg8_setReg8_same (s.drew.setReg8 .ah (s.reg8 .al / 10)) .al (s.reg8 .al % 10)
  have hah := (reg8_setReg8_other (s.drew.setReg8 .ah (s.reg8 .al / 10)) (n := .al) (m := .ah) (s.reg8 .al % 10)
    (by decide)).trans (reg8_setReg8_same s.drew .ah (s.reg8 .al / 10))
  have hdesc : (s.flags.baseAdjust (s.reg8 .al % 10) s.drawn).Describes (s.reg8 .al % 10) := Flags.szp_describes _ _
  exact ⟨_, rfl, hah, hal, rfl, hal.symm ▸ hdesc,
    (((Untouched.refl s).drew.setReg8 .ah _).setReg8 .al _).setFlags (Flags.baseAdjust_control s.flags _ s.drawn)⟩

/-- AAD joins two digits in AL (41_arithmetic.md R275). -/
theorem aad_next (s : State) : ∃ t, exec .aad s = .next t ∧ t.reg8 .al = s.reg8 .ah * 10 + s.reg8 .al ∧ t.reg8 .ah = 0 ∧
    t.regs = { s.regs with ax := t.regs.ax } ∧ t.flags.Describes (t.reg8 .al) ∧ Untouched s t := by
  have hah := reg8_setReg8_same (s.drew.setReg8 .al (s.reg8 .ah * 10 + s.reg8 .al)) .ah 0
  have hal := (reg8_setReg8_other (s.drew.setReg8 .al (s.reg8 .ah * 10 + s.reg8 .al)) (n := .ah) (m := .al) 0
    (by decide)).trans (reg8_setReg8_same s.drew .al (s.reg8 .ah * 10 + s.reg8 .al))
  have hdesc : (s.flags.baseAdjust (s.reg8 .ah * 10 + s.reg8 .al) s.drawn).Describes (s.reg8 .ah * 10 + s.reg8 .al) :=
    Flags.szp_describes _ _
  exact ⟨_, rfl, hal, hah, rfl, hal.symm ▸ hdesc,
    (((Untouched.refl s).drew.setReg8 .al _).setReg8 .ah _).setFlags (Flags.baseAdjust_control s.flags _ s.drawn)⟩

/-! ### DAA and DAS -/

/-- AL and CF after a decimal adjustment: free where the rule leaves them open, else those of the two steps (entry 17). -/
def State.decimalOutcome (s : State) (d1 d2 : Byte) (isOpen : Byte → Flags → Bool) : Byte × Bool :=
  if isOpen (s.reg8 .al) s.flags then (highByte s.drew.drawn, (Flags.ofWord s.drew.drawn).cf)
  else decimalResult d1 d2 (s.reg8 .al) s.flags

/-- From `s` to `t` a decimal adjustment of AL was made (41_arithmetic.md R261, R263). -/
structure DecimalAdjusted (d1 d2 : Byte) (isOpen : Byte → Flags → Bool) (s t : State) : Prop extends Untouched s t where
  regs : ∃ b, t.regs = (s.setReg8 .al b).regs
  describes : t.flags.Describes (t.reg8 .al)
  af : t.flags.af = adjustsLow (s.reg8 .al) s.flags
  outcome : (t.reg8 .al, t.flags.cf) = s.decimalOutcome d1 d2 isOpen

theorem decimalAdjust_next (d1 d2 : Byte) (isOpen : Byte → Flags → Bool) (s : State) :
    ∃ t, runOp (decimalAdjust d1 d2 isOpen) s = .next t ∧ DecimalAdjusted d1 d2 isOpen s t := by
  rcases hp : s.decimalOutcome d1 d2 isOpen with ⟨v, c⟩
  have hrun : decimalAdjust d1 d2 isOpen s = .ok ((), (s.drew.drew.setReg8 .al (s.decimalOutcome d1 d2 isOpen).1).setFlags
      (s.flags.decimalAdjust (s.decimalOutcome d1 d2 isOpen).1 (adjustsLow (s.reg8 .al) s.flags)
        (s.decimalOutcome d1 d2 isOpen).2 s.drawn)) := rfl
  rw [hp] at hrun
  have hal := reg8_setReg8_same s.drew.drew .al v
  have hdesc : (s.flags.decimalAdjust v (adjustsLow (s.reg8 .al) s.flags) c s.drawn).Describes v := by
    obtain ⟨hz, hs, hp⟩ := s.flags.szp_describes v
    exact ⟨hz, hs, hp⟩
  exact ⟨_, runOp_of_ok hrun,
    ⟨((Untouched.refl s).drew.drew.setReg8 .al v).setFlags (Flags.decimalAdjust_control s.flags v _ c s.drawn),
      ⟨v, rfl⟩, hal.symm ▸ hdesc, rfl, (congrArg (·, c) hal).trans hp.symm⟩⟩

/-- The two steps, the second test looking at what the first step left in AL (41_arithmetic.md R261, R263). -/
theorem decimalResult_of_first {d1 al a : Byte} {f : Flags} (ha : a = if adjustsLow al f then al + d1 else al) (d2 : Byte) :
    decimalResult d1 d2 al f =
      (if 9 < a.toNat / 16 ∨ f.cf = true then a + d2 else a, decide (9 < a.toNat / 16 ∨ f.cf = true)) := by
  have hstep : decimalResult d1 d2 al f = if decide (9 < a.toNat / 16) || f.cf then (a + d2, true) else (a, false) := by
    rw [ha]
    rfl
  rw [hstep]
  by_cases hhigh : 9 < a.toNat / 16 ∨ f.cf = true
  · rw [if_pos (by simpa using hhigh), if_pos hhigh, decide_eq_true hhigh]
  · rw [if_neg (by simpa using hhigh), if_neg hhigh, decide_eq_false hhigh]

theorem DecimalAdjusted.of_first {d1 d2 a : Byte} {isOpen : Byte → Flags → Bool} (h : DecimalAdjusted d1 d2 isOpen s t)
    (hopen : isOpen (s.reg8 .al) s.flags = false)
    (ha : a = if 9 < (s.reg8 .al).toNat % 16 ∨ s.flags.af = true then s.reg8 .al + d1 else s.reg8 .al) :
    t.reg8 .al = (if 9 < a.toNat / 16 ∨ s.flags.cf = true then a + d2 else a) ∧
      (t.flags.cf = true ↔ 9 < a.toNat / 16 ∨ s.flags.cf = true) := by
  simp only [← adjustsLow_iff] at ha
  have hout := h.outcome
  rw [State.decimalOutcome, hopen, if_neg Bool.false_ne_true, decimalResult_of_first ha, Prod.mk.injEq] at hout
  exact ⟨hout.1, by rw [hout.2, decide_eq_true_iff]⟩

theorem daaOpen_eq_false {al : Byte} {f : Flags} (h : ¬ ((9 < al.toNat % 16 ∨ f.af = true) ∧ 0xF9 < al.toNat)) :
    daaOpen al f = false := by
  rw [← adjustsLow_iff] at h
  simpa [daaOpen] using h

theorem dasOpen_eq_false {al : Byte} {f : Flags} (hborrow : ¬ ((9 < al.toNat % 16 ∨ f.af = true) ∧ al.toNat < 6))
    (hrange : ¬ (0x9A ≤ al.toNat ∧ al.toNat ≤ 0x9F ∧ f.cf = false)) : dasOpen al f = false := by
  rw [← adjustsLow_iff] at hborrow
  rw [← and_assoc] at hrange
  rw [dasOpen, Bool.or_eq_false_iff, ← Bool.not_eq_true, ← Bool.not_eq_true]
  exact ⟨by simpa using hborrow, by simpa using hrange⟩

/-! ### The decimal sum -/

/-- A decimal number below 100 as packed BCD: the tens in the high nibble, the ones in the low one. -/
def bcd (n : Nat) : Nat := n / 10 * 16 + n % 10

theorem bcd_lt {x : Nat} (h : x < 100) : bcd x < 256 := by
  unfold bcd
  omega

/-- Each digit that carries makes up for the six codes of its nibble that are no digits. -/
theorem bcd_add_bcd {x y : Nat} (hx : x < 100) (hy : y < 100) :
    bcd x + bcd y + (if 10 ≤ x % 10 + y % 10 then 6 else 0) + (if 100 ≤ x + y then 0x60 else 0) =
      bcd ((x + y) % 100) + if 100 ≤ x + y then 0x100 else 0 := by
  unfold bcd
  split <;> split <;> omega

variable {x y : Nat} {a b : Byte}

/-- The first test of DAA after an addition: the ones carry. -/
theorem adjustsLow_add_bcd (ha : a.toNat = bcd x) (hb : b.toNat = bcd y) (f : Flags) :
    (9 < (a + b).toNat % 16 ∨ (f.add a b false).af = true) ↔ 10 ≤ x % 10 + y % 10 := by
  have haf : (f.add a b false).af = true ↔ 16 ≤ a.toNat % 16 + b.toNat % 16 := decide_eq_true_iff
  rw [haf, BitVec.toNat_add, ha, hb]
  unfold bcd
  omega

theorem add_bcd_cf_iff (ha : a.toNat = bcd x) (hb : b.toNat = bcd y) (f : Flags) :
    (f.add a b false).cf = true ↔ 256 ≤ bcd x + bcd y := by
  rw [← ha, ← hb]
  exact decide_eq_true_iff

theorem toNat_ite_add (c : Prop) [Decidable c] (v d : Byte) :
    (if c then v + d else v).toNat = (v.toNat + if c then d.toNat else 0) % 256 := by
  split
  · exact BitVec.toNat_add v d
  · exact (Nat.mod_eq_of_lt v.isLt).symm

/-- The high nibble of a sum of digits after the first step of DAA, where that step does not wrap. -/
theorem high_nibble_iff {tens ones : Nat} (ht : tens ≤ 18) (ho : ones ≤ 18)
    (hopen : ¬ (10 ≤ ones ∧ 0xF9 < (tens * 16 + ones) % 256)) :
    (9 < ((tens * 16 + ones) % 256 + if 10 ≤ ones then 6 else 0) % 256 / 16 ∨ 256 ≤ tens * 16 + ones) ↔
      10 ≤ tens + if 10 ≤ ones then 1 else 0 := by
  by_cases hcf : 256 ≤ tens * 16 + ones
  · have hten : 10 ≤ tens := by omega
    exact iff_of_true (.inr hcf) (Nat.le_add_right_of_le hten)
  · rw [Nat.mod_eq_of_lt (a := tens * 16 + ones) (by omega)] at hopen ⊢
    split <;> omega

/-- The second test of DAA after an addition: the tens carry. -/
theorem adjustsHigh_add_bcd (hx : x < 100) (hy : y < 100) (ha : a.toNat = bcd x) (hb : b.toNat = bcd y)
    (hopen : ¬ (10 ≤ x % 10 + y % 10 ∧ 0xF9 < (a + b).toNat)) (f : Flags) :
    (9 < (if 10 ≤ x % 10 + y % 10 then a + b + 6 else a + b).toNat / 16 ∨ (f.add a b false).cf = true) ↔ 100 ≤ x + y := by
  have hdigits : bcd x + bcd y = (x / 10 + y / 10) * 16 + (x % 10 + y % 10) := by
    unfold bcd
    omega
  have hab : (a + b).toNat = ((x / 10 + y / 10) * 16 + (x % 10 + y % 10)) % 256 := by
    rw [BitVec.toNat_add, ha, hb, hdigits]
  rw [toNat_ite_add, add_bcd_cf_iff ha hb, hdigits, hab]
  refine (high_nibble_iff (by omega) (by omega) (hab ▸ hopen)).trans ?_
  split <;> omega

/-- The two steps of DAA after an addition leave the digits of the sum. -/
theorem daa_add_bcd (hx : x < 100) (hy : y < 100) (ha : a.toNat = bcd x) (hb : b.toNat = bcd y) {v : Byte}
    (hv : v = if 10 ≤ x % 10 + y % 10 then a + b + 6 else a + b) :
    (if 100 ≤ x + y then v + 0x60 else v) = BitVec.ofNat 8 (bcd ((x + y) % 100)) := by
  refine BitVec.eq_of_toNat_eq ?_
  have hv256 : v.toNat = (bcd x + bcd y + if 10 ≤ x % 10 + y % 10 then 6 else 0) % 256 := by
    rw [hv, toNat_ite_add, BitVec.toNat_add, ha, hb]
    exact Nat.mod_add_mod ..
  calc (if 100 ≤ x + y then v + 0x60 else v).toNat
      = (bcd x + bcd y + (if 10 ≤ x % 10 + y % 10 then 6 else 0) + if 100 ≤ x + y then 0x60 else 0) % 256 := by
        rw [toNat_ite_add, hv256]
        exact Nat.mod_add_mod ..
    _ = (bcd ((x + y) % 100) + if 100 ≤ x + y then 0x100 else 0) % 256 := by rw [bcd_add_bcd hx hy]
    _ = (BitVec.ofNat 8 (bcd ((x + y) % 100))).toNat := by
        rw [BitVec.toNat_ofNat]
        split
        · exact Nat.add_mod_right ..
        · rfl

/-- ADD AL, ib (41_arithmetic.md R250). -/
theorem addAcc_byte_ok (h : exec (.addAcc (.ib b)) s = .next t) :
    t.reg8 .al = s.reg8 .al + b ∧ t.flags = s.flags.add (s.reg8 .al) b false := by
  cases (binRmVal_next (readRM_ofReg .byte .al s) (addOp_run .byte rfl _ b)).symm.trans h
  exact ⟨reg8_setReg8_same _ .al _, rfl⟩

end

/-! ### The statements -/

/-- Settles O28: AAA and AAS by `asciiAdjust_next`, AAS with the negated steps. -/
theorem asciiAndBaseAdjust : Obligations.AsciiAndBaseAdjust := by
  rintro s _ _ rfl rfl
  refine ⟨fun adj hadj => ?_, ?_, ?_⟩
  · have hlow : adjustsLow (s.reg8 .al) s.flags = adj := Bool.eq_iff_iff.2 ((adjustsLow_iff _ _).trans hadj.symm)
    obtain ⟨t, hexec, hregs, haf, hcf, ht⟩ := asciiAdjust_next 6 1 hlow
    obtain ⟨t', hexec', hregs', haf', hcf', ht'⟩ := asciiAdjust_next (-6) (-1) hlow
    simp only [← BitVec.sub_eq_add_neg] at hregs'
    exact ⟨⟨t, hexec, hregs, haf, hcf, ht.frame⟩,
      ⟨t', hexec', hregs', haf', hcf', ht'.frame⟩⟩
  · obtain ⟨t, hexec, hah, hal, hregs, hdesc, ht⟩ := aam_next s
    exact ⟨t, hexec, (congrArg BitVec.toNat hah).trans BitVec.toNat_udiv, (congrArg BitVec.toNat hal).trans BitVec.toNat_umod,
      hregs, hdesc.zf, hdesc.sf_eq_msb, hdesc.pf, ht.frame⟩
  · obtain ⟨t, hexec, hal, hah, hregs, hdesc, ht⟩ := aad_next s
    have hsum : (t.reg8 .al).toNat = ((s.reg8 .ah).toNat * 10 + (s.reg8 .al).toNat) % 256 := by simp [hal]
    exact ⟨t, hexec, hsum, hah, hregs, hdesc.zf, hdesc.sf_eq_msb, hdesc.pf, ht.frame⟩

/-- Settles O29: both are `decimalAdjust`, DAS with the negated steps. -/
theorem decimalAdjustSteps : Obligations.DecimalAdjustSteps := by
  rintro s _ a1 d1 rfl ha hd
  obtain ⟨t, hexec, ht⟩ := decimalAdjust_next 6 0x60 daaOpen s
  obtain ⟨t', hexec', ht'⟩ := decimalAdjust_next (-6) (-0x60) dasOpen s
  rw [BitVec.sub_eq_add_neg] at hd
  refine ⟨⟨t, hexec, ht.regs, ht.describes.sf_eq_msb, ht.describes.zf, ht.describes.pf, ?_, ht.control, ht.mem, ht.segs, ht.ip,
    ht.hidden, fun hopen => ht.of_first (daaOpen_eq_false hopen) ha⟩,
    ⟨t', hexec', ht'.regs, ht'.describes.sf_eq_msb, ht'.describes.zf, ht'.describes.pf, ?_, ht'.control, ht'.mem, ht'.segs,
    ht'.ip, ht'.hidden, fun hborrow hrange => ?_⟩⟩
  · rw [ht.af, adjustsLow_iff]
  · rw [ht'.af, adjustsLow_iff]
  · rw [BitVec.sub_eq_add_neg]
    exact ht'.of_first (dasOpen_eq_false hborrow hrange) hd

/-- Settles O30: the two tests of DAA are the carries of the ones and of the tens. -/
theorem daaGivesDecimalSum : Obligations.DaaGivesDecimalSum := by
  intro s t x y hx hy hal hadd hopen
  have ha : (s.reg8 .al).toNat = bcd x := by
    rw [hal]
    exact Nat.mod_eq_of_lt (bcd_lt hx)
  have hb : (BitVec.ofNat 8 (bcd y)).toNat = bcd y := Nat.mod_eq_of_lt (bcd_lt hy)
  obtain ⟨hsum, hflags⟩ := addAcc_byte_ok (b := BitVec.ofNat 8 (bcd y)) hadd
  have hlow := adjustsLow_add_bcd ha hb s.flags
  rw [← hsum, ← hflags] at hlow
  have hhigh := adjustsHigh_add_bcd hx hy ha hb (by rwa [hlow, hsum] at hopen) s.flags
  rw [← hflags, ← hsum] at hhigh
  obtain ⟨u, hexec, hu⟩ := decimalAdjust_next 6 0x60 daaOpen t
  obtain ⟨hal', hcf⟩ := hu.of_first (daaOpen_eq_false hopen) (if_congr hlow.symm rfl rfl)
  refine ⟨u, hexec, ?_, hcf.trans hhigh⟩
  rw [hal', if_congr hhigh rfl rfl, daa_add_bcd hx hy ha hb (by rw [hsum]), bcd, Nat.mod_mod_of_dvd _ (by decide)]

end Sys2Proof.Machine

/-! ## Logic: the forms with a register, with an immediate and with the accumulator -/

namespace Sys2Proof.Machine

section
variable {t : State} {f : Flags}

/-- `logic_N` draws once, for AF. -/
theorem logicOp_run (w : Width) (h : t.flags = f) (v : BitVec w.bits) :
    logicOp w v t = .ok (v, (t.setDraws (t.draws + 1)).setFlags (f.logic v (Config.freeValue t.draws))) := by
  subst h
  rfl

theorem andOp_run (w : Width) (h : t.flags = f) (a b : BitVec w.bits) :
    andOp w a b t = .ok (a &&& b, (t.setDraws (t.draws + 1)).setFlags (f.logic (a &&& b) (Config.freeValue t.draws))) :=
  logicOp_run w h (a &&& b)

theorem orOp_run (w : Width) (h : t.flags = f) (a b : BitVec w.bits) :
    orOp w a b t = .ok (a ||| b, (t.setDraws (t.draws + 1)).setFlags (f.logic (a ||| b) (Config.freeValue t.draws))) :=
  logicOp_run w h (a ||| b)

theorem xorOp_run (w : Width) (h : t.flags = f) (a b : BitVec w.bits) :
    xorOp w a b t = .ok (a ^^^ b, (t.setDraws (t.draws + 1)).setFlags (f.logic (a ^^^ b) (Config.freeValue t.draws))) :=
  logicOp_run w h (a ^^^ b)

end

/-- Settles O26: each form on its operation; a read of the operand leaves the flags and the register as they were. -/
theorem logicWithRegister : Obligations.LogicWithRegister := by
  intro s t w rm r a h
  have hf := readRM_flags h
  exact ⟨binRmReg_next h (andOp_run w hf a _), binRegRm_next h (andOp_run w hf _ a), binRmReg_next h (orOp_run w hf a _),
    binRegRm_next h (orOp_run w hf _ a), binRmReg_next h (xorOp_run w hf a _), binRegRm_next h (xorOp_run w hf _ a),
    testRmReg_next h (andOp_run w hf a _)⟩

/-- Settles O27: the immediate forms of a byte and of a word, and those of the accumulator, which can always be read. -/
theorem logicWithImmediate : Obligations.LogicWithImmediate := by
  intro s t rm b v
  have hal := readRM_ofReg .byte .al s
  have hax := readRM_ofReg .word .ax s
  refine ⟨fun x h => ?_, fun y h => ?_, ?_⟩
  · have hf := readRM_flags h
    exact ⟨binRmVal_next h (andOp_run .byte hf x b), binRmVal_next h (orOp_run .byte hf x b),
      binRmVal_next h (xorOp_run .byte hf x b), testRmVal_next h (andOp_run .byte hf x b)⟩
  · have hf := readRM_flags h
    exact ⟨binRmVal_next h (andOp_run .word hf y v), binRmVal_next h (orOp_run .word hf y v),
      binRmVal_next h (xorOp_run .word hf y v), binRmVal_next h (andOp_run .word hf y (sext16 b)),
      testRmVal_next h (andOp_run .word hf y v)⟩
  · exact ⟨binRmVal_next hal (andOp_run .byte rfl _ b), binRmVal_next hax (andOp_run .word rfl _ v),
      binRmVal_next hal (orOp_run .byte rfl _ b), binRmVal_next hax (orOp_run .word rfl _ v),
      binRmVal_next hal (xorOp_run .byte rfl _ b), binRmVal_next hax (xorOp_run .word rfl _ v),
      testRmVal_next hal (andOp_run .byte rfl _ b), testRmVal_next hax (andOp_run .word rfl _ v)⟩

end Sys2Proof.Machine

/-! ## Shifts and rotates: the operand and CF after a count -/

namespace Sys2Proof.Machine

section
variable {n : Nat}

/-! ### Repeating the one-bit step -/

/-- The definition takes the first step off; this takes the last. -/
theorem steps_succ_eq_step (k : ShiftKind) (c : Nat) (p : BitVec n × Bool) :
    k.steps (c + 1) p = k.step (k.steps c p).1 (k.steps c p).2 := by
  induction c generalizing p with
  | zero => rfl
  | succ c ih => exact ih (k.step p.1 p.2)

/-- Where one step is seen through `view` as `move` by 1, and moves add up, `c` steps are seen as `move` by `c`. -/
theorem view_steps {α : Type} {k : ShiftKind} (view : BitVec n × Bool → α) (move : α → Nat → α)
    (hzero : ∀ a, move a 0 = a) (hadd : ∀ a i j, move a (i + j) = move (move a i) j)
    (hstep : ∀ p, view (k.step p.1 p.2) = move (view p) 1) (c : Nat) (p : BitVec n × Bool) :
    view (k.steps c p) = move (view p) c := by
  induction c with
  | zero => exact (hzero _).symm
  | succ c ih => rw [steps_succ_eq_step, hstep, ih, ← hadd]

/-! ### Rotations of a bit vector -/

theorem rotateLeft_zero (x : BitVec n) : x.rotateLeft 0 = x := by
  ext i hi
  simp

theorem rotateRight_zero (x : BitVec n) : x.rotateRight 0 = x := by
  ext i hi
  simp [hi]

theorem rotateLeft_self (x : BitVec n) : x.rotateLeft n = x := by
  rw [← BitVec.rotateLeft_mod_eq_rotateLeft, Nat.mod_self, rotateLeft_zero]

theorem rotateRight_self (x : BitVec n) : x.rotateRight n = x := by
  rw [← BitVec.rotateRight_mod_eq_rotateRight, Nat.mod_self, rotateRight_zero]

theorem rotateLeft_add (x : BitVec n) (i j : Nat) : x.rotateLeft (i + j) = (x.rotateLeft i).rotateLeft j := by
  refine BitVec.eq_of_getMsbD_eq fun m hm => ?_
  have hmod : (j + m) % n < n := Nat.mod_lt _ (Nat.zero_lt_of_lt hm)
  simp [BitVec.getMsbD_rotateLeft, hm, hmod, Nat.add_assoc]

theorem getLsbD_rotateRight_mod {i : Nat} (hi : i < n) (x : BitVec n) (c : Nat) :
    (x.rotateRight c).getLsbD i = x.getLsbD ((c + i) % n) := by
  have hc := Nat.mod_lt c (Nat.zero_lt_of_lt hi)
  have hmod : (c + i) % n = (c % n + i) % n := (Nat.mod_add_mod c n i).symm
  rw [BitVec.getLsbD_rotateRight, hmod]
  by_cases h : i < n - c % n
  · rw [decide_eq_true h, cond_true, Nat.mod_eq_of_lt (by omega : c % n + i < n)]
  · rw [decide_eq_false h, cond_false, decide_eq_true hi, Bool.true_and, Nat.mod_eq_sub_mod (by omega : n ≤ c % n + i),
      Nat.mod_eq_of_lt (by omega : c % n + i - n < n)]
    congr 1
    omega

theorem rotateRight_add (x : BitVec n) (i j : Nat) : x.rotateRight (i + j) = (x.rotateRight i).rotateRight j := by
  refine BitVec.eq_of_getLsbD_eq fun m hm => ?_
  have hmod : (j + m) % n < n := Nat.mod_lt _ (Nat.zero_lt_of_lt hm)
  rw [getLsbD_rotateRight_mod hm, getLsbD_rotateRight_mod hm, getLsbD_rotateRight_mod hmod, Nat.add_mod_mod, Nat.add_assoc]

/-! ### One step, bit by bit -/

theorem getLsbD_ofNat_toNat (b : Bool) {i : Nat} (hi : i < n) : (BitVec.ofNat n b.toNat).getLsbD i = (decide (i = 0) && b) := by
  rw [BitVec.getLsbD_ofNat, decide_eq_true hi, Bool.true_and, Nat.testBit_bool_toNat]

theorem getLsbD_shiftInBottom (x : BitVec n) (b : Bool) {i : Nat} (hi : i < n) :
    (shiftInBottom x b).getLsbD i = if i = 0 then b else x.getLsbD (i - 1) := by
  rw [shiftInBottom, BitVec.getLsbD_or, BitVec.getLsbD_shiftLeft, getLsbD_ofNat_toNat b hi]
  cases i <;> simp [hi]

theorem getLsbD_shiftInTop (b : Bool) (x : BitVec n) {i : Nat} (hi : i < n) :
    (shiftInTop b x).getLsbD i = if i = n - 1 then b else x.getLsbD (i + 1) := by
  rw [shiftInTop, BitVec.getLsbD_or, BitVec.getLsbD_shiftLeft, BitVec.getLsbD_ushiftRight, Nat.add_comm 1 i]
  split
  next htop =>
    subst htop
    rw [getLsbD_ofNat_toNat b (by omega), BitVec.getLsbD_of_ge x _ (by omega)]
    simp [hi]
  next htop => simp [show i < n - 1 by omega]

/-- The arithmetic shift repeats the sign. -/
theorem shiftInTop_msb (x : BitVec n) : shiftInTop x.msb x = x.sshiftRight 1 := by
  refine BitVec.eq_of_getLsbD_eq fun i hi => ?_
  rw [getLsbD_shiftInTop _ _ hi, BitVec.getLsbD_sshiftRight, Nat.add_comm 1 i]
  by_cases htop : i = n - 1
  · simp [htop, show ¬ (n - 1 + 1 < n) by omega, show ¬ (n ≤ n - 1) by omega]
  · simp [htop, hi, show i + 1 < n by omega]

theorem getLsbD_rotateLeft_one (hn : 1 < n) (x : BitVec n) {i : Nat} (hi : i < n) :
    (x.rotateLeft 1).getLsbD i = if i = 0 then x.getLsbD (n - 1) else x.getLsbD (i - 1) := by
  rw [BitVec.getLsbD_rotateLeft, Nat.mod_eq_of_lt hn]
  cases i <;> simp [hi]

theorem getLsbD_rotateRight_one (hn : 1 < n) (x : BitVec n) {i : Nat} (hi : i < n) :
    (x.rotateRight 1).getLsbD i = if i = n - 1 then x.getLsbD 0 else x.getLsbD (i + 1) := by
  rw [getLsbD_rotateRight_mod hi, Nat.add_comm 1 i]
  split
  next htop => rw [htop, Nat.sub_add_cancel hn.le, Nat.mod_self]
  next htop => rw [Nat.mod_eq_of_lt (by omega)]

theorem shiftInBottom_msb (hn : 1 < n) (x : BitVec n) : shiftInBottom x x.msb = x.rotateLeft 1 :=
  BitVec.eq_of_getLsbD_eq fun i hi => by
    rw [getLsbD_shiftInBottom _ _ hi, getLsbD_rotateLeft_one hn _ hi, BitVec.msb_eq_getLsbD_last]

theorem shiftInTop_bit_zero (hn : 1 < n) (x : BitVec n) : shiftInTop (x.getLsbD 0) x = x.rotateRight 1 :=
  BitVec.eq_of_getLsbD_eq fun i hi => by rw [getLsbD_shiftInTop _ _ hi, getLsbD_rotateRight_one hn _ hi]

/-! ### The bits that RCL and RCR rotate -/

/-- CF followed by the operand (42_logic_shift_rotate.md R313, R314). -/
def withCarry (p : BitVec n × Bool) : BitVec (1 + n) := BitVec.ofBool p.2 ++ p.1

theorem getLsbD_withCarry (p : BitVec n × Bool) (i : Nat) :
    (withCarry p).getLsbD i = if i = n then p.2 else p.1.getLsbD i := by
  rw [withCarry, BitVec.getLsbD_append, BitVec.getLsbD_ofBool]
  rcases Nat.lt_trichotomy i n with h | rfl | h
  · simp [h, h.ne]
  · simp
  · simp [h.ne', h.not_gt, show i - n ≠ 0 by omega, BitVec.getLsbD_of_ge p.1 i h.le]

theorem withCarry_injective : Function.Injective (withCarry : BitVec n × Bool → BitVec (1 + n)) := by
  intro p q h
  have hbit (i : Nat) := congrArg (·.getLsbD i) h
  simp only [getLsbD_withCarry] at hbit
  refine Prod.ext (BitVec.eq_of_getLsbD_eq fun i hi => ?_) ?_
  · simpa [hi.ne] using hbit i
  · simpa using hbit n

theorem withCarry_rcl (hn : 0 < n) (p : BitVec n × Bool) :
    withCarry (ShiftKind.rcl.step p.1 p.2) = (withCarry p).rotateLeft 1 := by
  refine BitVec.eq_of_getLsbD_eq fun i hi => ?_
  rw [getLsbD_rotateLeft_one (by omega) _ hi, getLsbD_withCarry, getLsbD_withCarry, getLsbD_withCarry]
  dsimp only [ShiftKind.step]
  obtain rfl | hlt : i = n ∨ i < n := by omega
  · rw [if_pos rfl, if_neg hn.ne', if_neg (by omega), BitVec.msb_eq_getLsbD_last]
  · rw [if_neg hlt.ne, getLsbD_shiftInBottom _ _ hlt, if_pos (by omega : 1 + n - 1 = n), if_neg (by omega : i - 1 ≠ n)]

theorem withCarry_rcr (hn : 0 < n) (p : BitVec n × Bool) :
    withCarry (ShiftKind.rcr.step p.1 p.2) = (withCarry p).rotateRight 1 := by
  refine BitVec.eq_of_getLsbD_eq fun i hi => ?_
  rw [getLsbD_rotateRight_one (by omega) _ hi, getLsbD_withCarry, getLsbD_withCarry, getLsbD_withCarry]
  dsimp only [ShiftKind.step]
  obtain rfl | hlt : i = n ∨ i < n := by omega
  · rw [if_pos rfl, if_pos (by omega : i = 1 + i - 1), if_neg hn.ne]
  · rw [if_neg hlt.ne, getLsbD_shiftInTop _ _ hlt, if_neg (by omega : i ≠ 1 + n - 1)]
    exact if_congr (by omega) rfl rfl

/-! ### The operand and CF after a count -/

theorem shl_steps (c : Nat) (p : BitVec n × Bool) : (ShiftKind.shl.steps c p).1 = p.1 <<< c :=
  view_steps Prod.fst (· <<< ·) BitVec.shiftLeft_zero BitVec.shiftLeft_add (fun _ => rfl) c p

theorem shr_steps (c : Nat) (p : BitVec n × Bool) : (ShiftKind.shr.steps c p).1 = p.1 >>> c :=
  view_steps Prod.fst (· >>> ·) BitVec.ushiftRight_zero BitVec.shiftRight_add (fun _ => rfl) c p

theorem sar_steps (c : Nat) (p : BitVec n × Bool) : (ShiftKind.sar.steps c p).1 = p.1.sshiftRight c :=
  view_steps (k := .sar) Prod.fst BitVec.sshiftRight (fun _ => BitVec.sshiftRight_zero) (fun _ _ _ => BitVec.sshiftRight_add)
    (fun p => shiftInTop_msb p.1) c p

theorem rol_steps (hn : 1 < n) (c : Nat) (p : BitVec n × Bool) : (ShiftKind.rol.steps c p).1 = p.1.rotateLeft c :=
  view_steps (k := .rol) Prod.fst BitVec.rotateLeft rotateLeft_zero rotateLeft_add (fun p => shiftInBottom_msb hn p.1) c p

theorem ror_steps (hn : 1 < n) (c : Nat) (p : BitVec n × Bool) : (ShiftKind.ror.steps c p).1 = p.1.rotateRight c :=
  view_steps (k := .ror) Prod.fst BitVec.rotateRight rotateRight_zero rotateRight_add (fun p => shiftInTop_bit_zero hn p.1) c p

theorem rcl_steps (hn : 0 < n) (c : Nat) (p : BitVec n × Bool) :
    withCarry (ShiftKind.rcl.steps c p) = (withCarry p).rotateLeft c :=
  view_steps withCarry BitVec.rotateLeft rotateLeft_zero rotateLeft_add (withCarry_rcl hn) c p

theorem rcr_steps (hn : 0 < n) (c : Nat) (p : BitVec n × Bool) :
    withCarry (ShiftKind.rcr.steps c p) = (withCarry p).rotateRight c :=
  view_steps withCarry BitVec.rotateRight rotateRight_zero rotateRight_add (withCarry_rcr hn) c p

theorem rcl_steps_cycle (hn : 0 < n) (p : BitVec n × Bool) : ShiftKind.rcl.steps (n + 1) p = p := by
  rw [Nat.add_comm]
  exact withCarry_injective ((rcl_steps hn _ p).trans (rotateLeft_self _))

theorem rcr_steps_cycle (hn : 0 < n) (p : BitVec n × Bool) : ShiftKind.rcr.steps (n + 1) p = p := by
  rw [Nat.add_comm]
  exact withCarry_injective ((rcr_steps hn _ p).trans (rotateRight_self _))

theorem shl_steps_carry {c : Nat} (hc : 1 ≤ c) (hcn : c ≤ n) (p : BitVec n × Bool) :
    (ShiftKind.shl.steps c p).2 = p.1.getLsbD (n - c) := by
  obtain ⟨d, rfl⟩ := Nat.exists_eq_add_of_le' hc
  calc (ShiftKind.shl.steps (d + 1) p).2
    _ = (ShiftKind.shl.steps d p).1.msb := congrArg Prod.snd (steps_succ_eq_step ..)
    _ = p.1.getLsbD (n - (d + 1)) := by
      rw [shl_steps, BitVec.msb_shiftLeft, BitVec.getMsbD, decide_eq_true (by omega : d < n), Bool.true_and, Nat.sub_sub,
        Nat.add_comm 1]

theorem shr_steps_carry {c : Nat} (hc : 1 ≤ c) (p : BitVec n × Bool) :
    (ShiftKind.shr.steps c p).2 = p.1.getLsbD (c - 1) := by
  obtain ⟨d, rfl⟩ := Nat.exists_eq_add_of_le' hc
  calc (ShiftKind.shr.steps (d + 1) p).2
    _ = (ShiftKind.shr.steps d p).1.getLsbD 0 := congrArg Prod.snd (steps_succ_eq_step ..)
    _ = p.1.getLsbD d := by rw [shr_steps, BitVec.getLsbD_ushiftRight, Nat.add_zero]

theorem sar_steps_carry {c : Nat} (hc : 1 ≤ c) (hcn : c ≤ n) (p : BitVec n × Bool) :
    (ShiftKind.sar.steps c p).2 = p.1.getLsbD (c - 1) := by
  obtain ⟨d, rfl⟩ := Nat.exists_eq_add_of_le' hc
  calc (ShiftKind.sar.steps (d + 1) p).2
    _ = (ShiftKind.sar.steps d p).1.getLsbD 0 := congrArg Prod.snd (steps_succ_eq_step ..)
    _ = p.1.getLsbD d := by
      rw [sar_steps, BitVec.getLsbD_sshiftRight, decide_eq_false (by omega : ¬ n ≤ 0), if_pos (by omega : d + 0 < n)]
      rfl

theorem rol_steps_carry (hn : 0 < n) {c : Nat} (hc : 1 ≤ c) (p : BitVec n × Bool) :
    (ShiftKind.rol.steps c p).2 = (ShiftKind.rol.steps c p).1.getLsbD 0 := by
  obtain ⟨d, rfl⟩ := Nat.exists_eq_add_of_le' hc
  rw [steps_succ_eq_step]
  exact ((getLsbD_shiftInBottom _ _ hn).trans (if_pos rfl)).symm

theorem ror_steps_carry (hn : 0 < n) {c : Nat} (hc : 1 ≤ c) (p : BitVec n × Bool) :
    (ShiftKind.ror.steps c p).2 = (ShiftKind.ror.steps c p).1.msb := by
  obtain ⟨d, rfl⟩ := Nat.exists_eq_add_of_le' hc
  rw [steps_succ_eq_step, BitVec.msb_eq_getLsbD_last]
  exact ((getLsbD_shiftInTop _ _ (Nat.sub_one_lt_of_lt hn)).trans (if_pos rfl)).symm

end

/-- Settles O35: each kind's step is one place of its shift or rotation, and places add up. -/
theorem shiftClosedForms : Obligations.ShiftClosedForms := by
  intro n x cf c hn
  have hpos : 0 < n := by omega
  refine ⟨shl_steps c _, shr_steps c _, sar_steps c _,
    fun hc hcn => ⟨shl_steps_carry hc hcn _, shr_steps_carry hc _, sar_steps_carry hc hcn _⟩,
    rol_steps hn c _, ror_steps hn c _, fun hc => ⟨?_, ?_⟩, rcl_steps hpos c _, rcr_steps hpos c _,
    rcl_steps_cycle hpos _, rcr_steps_cycle hpos _, fun _ => rfl⟩
  · rw [rol_steps_carry hpos hc, rol_steps hn]
  · rw [ror_steps_carry hpos hc, ror_steps hn]

end Sys2Proof.Machine

/-! ## Shifts and rotates: the flags, and what an instruction answers -/

namespace Sys2Proof.Machine

/-! ### The flags of a shift or rotate -/

section
variable {n c : Nat} {k : ShiftKind}

theorem Flags.shifted_zero (f : Flags) (k : ShiftKind) (x y : BitVec n) (cf : Bool) (u : Word) : f.shifted k 0 x y cf u = f :=
  if_pos rfl

theorem Flags.shifted_of_isShift (hc : 0 < c) (hk : k.isShift = true) (f : Flags) (x y : BitVec n) (cf : Bool) (u : Word) :
    f.shifted k c x y cf u = { f.szp y with
      cf := cf, ofl := if c = 1 then k.overflow x y cf else u.getLsbD 11, af := u.getLsbD 4 } := by
  rw [Flags.shifted, if_neg hc.ne', if_pos hk]
  rfl

theorem Flags.shifted_of_rotate (hc : 0 < c) (hk : k.isShift = false) (f : Flags) (x y : BitVec n) (cf : Bool) (u : Word) :
    f.shifted k c x y cf u = { f with cf := cf, ofl := if c = 1 then k.overflow x y cf else u.getLsbD 11 } := by
  rw [Flags.shifted, if_neg hc.ne', if_neg (by simp [hk])]
  rfl

/-- What a shift and a rotate have in common. -/
theorem Flags.shifted_carry_overflow_control (hc : 0 < c) (f : Flags) (k : ShiftKind) (x y : BitVec n) (cf : Bool) (u : Word) :
    (f.shifted k c x y cf u).cf = cf ∧
      (f.shifted k c x y cf u).ofl = (if c = 1 then k.overflow x y cf else u.getLsbD 11) ∧
      SameControl f (f.shifted k c x y cf u) := by
  cases hk : k.isShift with
  | true =>
    rw [Flags.shifted_of_isShift hc hk]
    exact ⟨rfl, rfl, rfl, rfl, rfl⟩
  | false =>
    rw [Flags.shifted_of_rotate hc hk]
    exact ⟨rfl, rfl, rfl, rfl, rfl⟩

theorem Flags.shifted_one_ofl (f : Flags) (k : ShiftKind) (x y : BitVec n) (cf : Bool) (u : Word) :
    (f.shifted k 1 x y cf u).ofl = k.overflow x y cf := by
  obtain ⟨-, hofl, -⟩ := f.shifted_carry_overflow_control Nat.one_pos k x y cf u
  exact hofl

end

/-! ### What a shift or rotate answers -/

section
variable {s t : State} {w : Width} {rm : RM}

theorem State.shiftCount_cl (s : State) : s.shiftCount .cl =
    if s.cfg.countMask = .none then (s.reg8 .r1).toNat else (s.reg8 .r1).toNat % 32 := by
  cases h : s.cfg.countMask <;> simp [State.shiftCount, h]

theorem ShiftKind.draws_iff (k : ShiftKind) (c : Nat) : k.draws c = true ↔ 1 < c ∨ (c = 1 ∧ k.isShift = true) := by
  simp [ShiftKind.draws, and_comm]

/-- The state that a shift or rotate of the operand `x` of `s` writes, `t` being the state after the read and the draw. -/
def State.afterShift (s t : State) (k : ShiftKind) (c : Nat) (rm : RM) (x : BitVec w.bits) (u : Word) : State :=
  (t.setFlags (s.flags.shifted k c x (k.steps c (x, s.flags.cf)).1 (k.steps c (x, s.flags.cf)).2 u)).writeLoc w
    (s.locate rm) (k.steps c (x, s.flags.cf)).1

theorem shiftRm_next {x : BitVec w.bits} (h : readRM w rm s = .ok (x, t)) (k : ShiftKind) (n : ShiftBy) :
    runOp (shiftRm k w n rm) s = .next (if k.draws (s.shiftCount n) then
      s.afterShift t.drew k (s.shiftCount n) rm x t.drawn else s.afterShift t k (s.shiftCount n) rm x 0) := by
  refine runOp_of_ok ((Op.bind_of_ok (Op.get_run s)).trans ((Op.bind_of_ok (Op.get_bind_ok h)).trans ?_))
  simp only [State.afterShift, ← readRM_flags h]
  split <;> rfl

/-- The seven instructions are one operation. -/
theorem exec_eq_shiftRm {n : ShiftBy} {k : ShiftKind} {i : Instr}
    (hi : (k, i) ∈ [(ShiftKind.rol, Instr.rol w n rm), (.ror, .ror w n rm), (.rcl, .rcl w n rm), (.rcr, .rcr w n rm),
      (.shl, .shl w n rm), (.shr, .shr w n rm), (.sar, .sar w n rm)]) (s : State) :
    exec i s = runOp (shiftRm k w n rm) s := by
  simp only [List.mem_cons, Prod.mk.injEq, List.not_mem_nil, or_false] at hi
  obtain ⟨rfl, rfl⟩ | ⟨rfl, rfl⟩ | ⟨rfl, rfl⟩ | ⟨rfl, rfl⟩ | ⟨rfl, rfl⟩ | ⟨rfl, rfl⟩ | ⟨rfl, rfl⟩ := hi <;> rfl

end

/-! ### The statements -/

/-- Settles O36: the equations of `Flags.shifted` for a shift and for a rotate, OF at count 1 being `ShiftKind.overflow`. -/
theorem shiftFlagsMean : Obligations.ShiftFlagsMean := by
  intro f k c w x y cf u
  refine ⟨f.shifted_zero k x y cf u, fun hc => ?_, fun hc => ?_, ?_, ?_, f.shifted_one_ofl .shr x y cf u,
    f.shifted_one_ofl .sar x y cf u⟩
  · obtain ⟨hcf, -, hcontrol⟩ := f.shifted_carry_overflow_control hc k x y cf u
    refine ⟨hcf, hcontrol, fun hk => ?_, fun hk => ?_⟩
    · rw [Flags.shifted_of_isShift hc hk]
      exact ⟨rfl, (f.szp_describes y).zf, rfl, rfl⟩
    · rw [Flags.shifted_of_rotate hc hk]
      exact ⟨rfl, rfl, rfl, rfl⟩
  · obtain ⟨-, hofl, -⟩ := f.shifted_carry_overflow_control (by omega : 0 < c) k x y cf u
    rw [hofl, if_neg hc.ne']
  · rintro _ (rfl | rfl | rfl) <;> exact f.shifted_one_ofl _ x y cf u
  · rintro _ (rfl | rfl) <;> rw [f.shifted_one_ofl, ← BitVec.msb_eq_getLsbD_last] <;> rfl

/-- Settles O34: the free value is drawn exactly where `draws` says that a flag is open. -/
theorem shiftResults : Obligations.ShiftResults := by
  intro s t w n rm x c h hc k i hi
  obtain rfl : c = s.shiftCount n := by
    cases n with
    | one => exact hc
    | cl => exact hc.trans s.shiftCount_cl.symm
  rw [exec_eq_shiftRm hi, shiftRm_next h, ← ShiftKind.draws_iff]
  exact ⟨fun hd => congrArg _ (if_neg hd), fun hd => congrArg _ (if_pos hd)⟩

end Sys2Proof.Machine

/-! ## Strings: one element, and the repetition of elements -/

namespace Sys2Proof.Machine

section
variable {s t u : State} {w : Width} {a b : BitVec w.bits} {seg off : Word}

/-! ### One element, from the reads that it makes -/

theorem load_regs (h : load w seg off s = .ok (a, t)) : t.regs = s.regs := by
  obtain ⟨l, e, d, rfl⟩ := load_ok h
  rfl

theorem load_segs (h : load w seg off s = .ok (a, t)) : t.segs = s.segs := by
  obtain ⟨l, e, d, rfl⟩ := load_ok h
  rfl

theorem load_flags (h : load w seg off s = .ok (a, t)) : t.flags = s.flags := by
  obtain ⟨l, e, d, rfl⟩ := load_ok h
  rfl

/-- `SI <- SI + delta`, where SI and DF are still those of `s` (43_string.md R330). -/
theorem stepSi_of_same (hsi : t.regs.si = s.regs.si) (hdf : t.flags.df = s.flags.df) (w : Width) :
    t.stepSi w = t.setReg16 .si (s.regs.si + s.delta w) := by
  simp only [State.stepSi, State.delta, hsi, hdf]

/-- `DI <- DI + delta`, where DI and DF are still those of `s` (43_string.md R330). -/
theorem stepDi_of_same (hdi : t.regs.di = s.regs.di) (hdf : t.flags.df = s.flags.df) (w : Width) :
    t.stepDi w = t.setReg16 .di (s.regs.di + s.delta w) := by
  simp only [State.stepDi, State.delta, hdi, hdf]

/-- Both, SI first: its step leaves DI and DF alone. -/
theorem stepSi_stepDi_of_same (hregs : t.regs = s.regs) (hdf : t.flags.df = s.flags.df) (w : Width) :
    (t.stepSi w).stepDi w = (t.setReg16 .si (s.regs.si + s.delta w)).setReg16 .di (s.regs.di + s.delta w) := by
  rw [stepSi_of_same (congrArg Regs.si hregs) hdf,
    stepDi_of_same (s := s) (t := t.setReg16 .si (s.regs.si + s.delta w)) (congrArg Regs.di hregs :) hdf]

/-- The accumulator is not SI. -/
theorem setReg_acc_si (s : State) (w : Width) (v : BitVec w.bits) : (s.setReg w acc v).regs.si = s.regs.si := by
  cases w <;> rfl

theorem setReg_flags (s : State) (w : Width) (r : RegNum) (v : BitVec w.bits) : (s.setReg w r v).flags = s.flags := by
  obtain ⟨g, hg⟩ := setReg_eq s w r v
  rw [hg, State.setRegs_flags]

theorem movsElement_of_load (h : load w (s.segOr .ds) s.regs.si s = .ok (a, t)) : movsElement w s =
    .ok ((), ((t.store w s.segs.es s.regs.di a).setReg16 .si (s.regs.si + s.delta w)).setReg16 .di (s.regs.di + s.delta w)) := by
  have hrun : movsElement w s = .ok ((), (((t.store w t.segs.es t.regs.di a).stepSi w).stepDi w)) := Op.bind_of_ok h
  rw [hrun, load_segs h, load_regs h, stepSi_stepDi_of_same (s := s) (by simp [load_regs h]) (by simp [load_flags h])]

theorem lodsElement_of_load (h : load w (s.segOr .ds) s.regs.si s = .ok (a, t)) :
    lodsElement w s = .ok ((), (t.setReg w acc a).setReg16 .si (s.regs.si + s.delta w)) := by
  have hrun : lodsElement w s = .ok ((), (t.setReg w acc a).stepSi w) := Op.bind_of_ok h
  rw [hrun, stepSi_of_same (s := s) (by rw [setReg_acc_si, load_regs h]) (by rw [setReg_flags, load_flags h])]

theorem outsElement_of_load (h : load w (s.segOr .ds) s.regs.si s = .ok (a, t)) :
    outsElement w s = .ok ((), (t.ioWrite w s.regs.dx a).setReg16 .si (s.regs.si + s.delta w)) := by
  have hrun : outsElement w s = .ok ((), (t.ioWrite w t.regs.dx a).stepSi w) := Op.bind_of_ok h
  rw [hrun, load_regs h, stepSi_of_same (s := s) (t := t.ioWrite w s.regs.dx a) (congrArg Regs.si (load_regs h) :)
    (congrArg Flags.df (load_flags h) :)]

theorem cmpsElement_of_loads (ha : load w (s.segOr .ds) s.regs.si s = .ok (a, t)) (hb : load w s.segs.es s.regs.di t = .ok (b, u)) :
    cmpsElement w s = .ok ((), ((u.setFlags (s.flags.sub a b false)).setReg16 .si (s.regs.si + s.delta w)).setReg16 .di
      (s.regs.di + s.delta w)) := by
  have hregs : u.regs = s.regs := (load_regs hb).trans (load_regs ha)
  have hflags : u.flags = s.flags := (load_flags hb).trans (load_flags ha)
  have hdst : readDestination w t = .ok (b, u) := by
    rw [← load_segs ha, ← load_regs ha] at hb
    exact hb
  have hrun : cmpsElement w s = .ok ((), ((u.setFlags (u.flags.sub a b false)).stepSi w).stepDi w) :=
    (Op.bind_of_ok (m := readSource w) ha).trans (Op.bind_of_ok hdst)
  rw [hrun, hflags, stepSi_stepDi_of_same (t := u.setFlags (s.flags.sub a b false)) hregs rfl]

theorem scasElement_of_load (h : load w s.segs.es s.regs.di s = .ok (b, u)) : scasElement w s =
    .ok ((), (u.setFlags (s.flags.sub (s.reg w acc) b false)).setReg16 .di (s.regs.di + s.delta w)) := by
  have hrun : scasElement w s = .ok ((), (u.setFlags (u.flags.sub (u.reg w acc) b false)).stepDi w) := Op.bind_of_ok h
  rw [hrun, load_flags h, reg_of_regs_eq (load_regs h),
    stepDi_of_same (s := s) (t := u.setFlags (s.flags.sub (s.reg w acc) b false)) (congrArg Regs.di (load_regs h) :) rfl]

theorem stosElement_run (w : Width) (s : State) : stosElement w s =
    .ok ((), (s.store w s.segs.es s.regs.di (s.reg w acc)).setReg16 .di (s.regs.di + s.delta w)) := by
  have hrun : stosElement w s = .ok ((), (s.store w s.segs.es s.regs.di (s.reg w acc)).stepDi w) := rfl
  rw [hrun, stepDi_of_same (s := s) (by simp) (by simp)]

theorem insElement_of_ioRead (h : ioRead w s.regs.dx s = .ok (a, t)) : insElement w s =
    .ok ((), (t.store w s.segs.es s.regs.di a).setReg16 .di (s.regs.di + s.delta w)) := by
  have hrun : insElement w s = .ok ((), (t.store w t.segs.es t.regs.di a).stepDi w) :=
    (Op.bind_of_ok (Op.get_run s)).trans (Op.bind_of_ok h)
  obtain ⟨l, e, d, rfl⟩ := ioRead_ok h
  rw [hrun, stepDi_of_same (s := s) (by simp) (by simp)]
  rfl

/-! ### Under F2h or F3h (43_string.md R345 to R348) -/

variable {i : Instr} {compares : Bool} {element : Op Unit} {k : RepKind}

theorem stringInstr_of_rep_none (h : s.pfx.rep = none) : stringInstr i compares element s = element s := by
  rw [stringInstr, Op.bind_of_ok (Op.get_run s), h]

theorem stringInstr_refused (hrep : s.pfx.rep = some .repne) (hc : compares = false) :
    stringInstr i compares element s = .error (.refused .repneOnNonComparing) := by
  rw [stringInstr, Op.bind_of_ok (Op.get_run s), hrep]
  dsimp only
  rw [if_pos ⟨rfl, hc⟩, Op.refuse_run]

/-- After an element under `k`, CX is one less; whether elements remain is said by CX and, where `i` compares, ZF
(43_string.md R345, R346). -/
def State.countDown (s : State) (i : Instr) (compares : Bool) (k : RepKind) : State :=
  (s.setReg16 .cx (s.regs.cx - 1)).setRepeating
    (if s.regs.cx - 1 ≠ 0 ∧ (compares = false ∨ s.flags.zf = decide (k = .rep)) then some i else none)

/-- Under an F2h or F3h that the instruction takes: the end of the repetition, or an element and the count. -/
theorem stringInstr_of_rep_some (hrep : s.pfx.rep = some k) (hk : k = .repne → compares = true) :
    stringInstr i compares element s = if s.regs.cx = 0 then .ok ((), s.setRepeating none) else
      (element >>= fun _ => Op.update (·.countDown i compares k)) s := by
  have htakes : ¬ (k = .repne ∧ compares = false) := fun h => by simp [hk h.1] at h
  rw [stringInstr, Op.bind_of_ok (Op.get_run s), hrep]
  simp only [htakes, if_false, Op.bind_of_ok (Op.get_run s)]
  split
  · rfl
  · refine congrArg (fun f => (element >>= fun _ => Op.update f) s) (funext fun t => ?_)
    have hgoes : (t.regs.cx - 1 != 0 && (!compares || t.flags.zf == (k == .rep))) = true ↔
        t.regs.cx - 1 ≠ 0 ∧ (compares = false ∨ t.flags.zf = decide (k = .rep)) := by
      simp [beq_eq_decide]
    simp only [State.countDown, ← hgoes]
    rfl

end

/-! ### An element does not look at F2h or F3h -/

/-- The state with another of F2h, F3h or neither read last (30_encoding.md R140). -/
def State.withRep (s : State) (r : Option RepKind) : State := s.setPfx { s.pfx with rep := r }

/-- The update neither depends on F2h or F3h nor changes CX or the prefixes read. -/
structure RepBlindUpdate (f : State → State) : Prop where
  cx : ∀ s, (f s).regs.cx = s.regs.cx
  pfx : ∀ s, (f s).pfx = s.pfx
  withRep : ∀ s r, f (s.withRep r) = (f s).withRep r

/-- Where the operation goes on, it neither depends on F2h or F3h nor changes CX or the prefixes read. -/
def Op.RepBlind {α : Type} (m : Op α) : Prop :=
  ∀ ⦃s t : State⦄ ⦃a : α⦄, m s = .ok (a, t) →
    t.regs.cx = s.regs.cx ∧ t.pfx = s.pfx ∧ ∀ r, m (s.withRep r) = .ok (a, t.withRep r)

section
variable {α β : Type} {s : State} {f g : State → State}

theorem RepBlindUpdate.comp (hg : RepBlindUpdate g) (hf : RepBlindUpdate f) : RepBlindUpdate fun s => g (f s) where
  cx s := (hg.cx (f s)).trans (hf.cx s)
  pfx s := (hg.pfx (f s)).trans (hf.pfx s)
  withRep s r := (congrArg g (hf.withRep s r)).trans (hg.withRep (f s) r)

theorem stepSi_repBlind (w : Width) : RepBlindUpdate (·.stepSi w) := ⟨fun _ => rfl, fun _ => rfl, fun _ _ => rfl⟩

theorem stepDi_repBlind (w : Width) : RepBlindUpdate (·.stepDi w) := ⟨fun _ => rfl, fun _ => rfl, fun _ _ => rfl⟩

theorem setReg_acc_repBlind (w : Width) (v : BitVec w.bits) : RepBlindUpdate (·.setReg w acc v) := by
  cases w <;> exact ⟨fun _ => rfl, fun _ => rfl, fun _ _ => rfl⟩

theorem noteStale_withRep (s : State) (x : Nat) (r : Option RepKind) : (s.withRep r).noteStale x = (s.noteStale x).withRep r := by
  have hahead : (s.withRep r).mayBePrefetched x = s.mayBePrefetched x := rfl
  unfold State.noteStale
  rw [hahead]
  split <;> rfl

theorem storeByte_withRep (s : State) (x : Nat) (v : Byte) (r : Option RepKind) :
    (s.withRep r).storeByte x v = (s.storeByte x v).withRep r := by
  have hcfg : (s.withRep r).cfg = s.cfg := rfl
  unfold State.storeByte
  rw [hcfg, noteStale_withRep]
  split <;> rfl

theorem store_withRep (s : State) (w : Width) (seg off : Word) (v : BitVec w.bits) (r : Option RepKind) :
    (s.withRep r).store w seg off v = (s.store w seg off v).withRep r := by
  cases w with
  | byte => exact storeByte_withRep s _ v r
  | word =>
    simp only [State.store, storeByte_withRep]
    rfl

theorem writeDestination_repBlind (w : Width) (v : BitVec w.bits) : RepBlindUpdate (·.writeDestination w v) where
  cx s := congrArg Regs.cx (store_regs s w _ _ v)
  pfx s := store_pfx s w _ _ v
  withRep s r := store_withRep s w _ _ v r

theorem Op.RepBlind.done (a : α) : (pure a : Op α).RepBlind := by
  intro s t b h
  cases h
  exact ⟨rfl, rfl, fun _ => rfl⟩

theorem Op.RepBlind.update (hf : RepBlindUpdate f) : (Op.update f).RepBlind := by
  intro s t a h
  cases h
  exact ⟨hf.cx s, hf.pfx s, fun r => congrArg (fun u => Except.ok ((), u)) (hf.withRep s r)⟩

theorem Op.RepBlind.bind {m : Op α} {o : α → Op β} (hm : m.RepBlind) (ho : ∀ a, (o a).RepBlind) : (m >>= o).RepBlind := by
  intro s t b h
  obtain ⟨a, u, hma, hob⟩ := Op.bind_ok h
  obtain ⟨hcx, hpfx, hrun⟩ := hm hma
  obtain ⟨hcx', hpfx', hrun'⟩ := ho a hob
  exact ⟨hcx'.trans hcx, hpfx'.trans hpfx, fun r => (Op.bind_of_ok (hrun r)).trans (hrun' r)⟩

/-- A look at the state, where what follows does not depend on F2h or F3h. -/
theorem Op.RepBlind.get_bind {o : State → Op β} (ho : ∀ s, (o s).RepBlind) (hrep : ∀ s r, o (s.withRep r) = o s) :
    (get >>= o).RepBlind := by
  intro s t b h
  obtain ⟨hcx, hpfx, hrun⟩ := ho s (Op.get_bind_ok h)
  refine ⟨hcx, hpfx, fun r => ?_⟩
  rw [Op.bind_of_ok (Op.get_run (s.withRep r)), hrep, hrun]

theorem answer_repBlind : answer.RepBlind := by
  intro s t a h
  unfold answer at h
  split at h <;> rename_i hans <;> cases h
  · exact ⟨rfl, rfl, fun _ => answer_of_cons hans⟩
  · exact ⟨rfl, rfl, fun _ => answer_of_nil hans⟩

theorem record_repBlind (e : Event) : (Op.update (·.record e)).RepBlind := .update ⟨fun _ => rfl, fun _ => rfl, fun _ _ => rfl⟩

/-- A read of a device address: the platform's answer, put on the trace (20_memory.md R91). -/
def deviceRead (x : Nat) : Op Byte := do
  let v ← answer
  Op.update (·.record (.memRead x (lowByte v)))
  return lowByte v

theorem readByte_of_device {x : Nat} (h : kindAt s.cfg.memMap x = .device) : readByte x s = deviceRead x s := by
  simp only [readByte, h]
  rfl

theorem deviceRead_repBlind (x : Nat) : (deviceRead x).RepBlind :=
  .bind answer_repBlind fun _ => .bind (record_repBlind _) fun _ => .done _

theorem readByte_repBlind (x : Nat) : (readByte x).RepBlind := by
  intro s t v h
  cases hk : kindAt s.cfg.memMap x with
  | ram | rom =>
    simp only [readByte, hk] at h
    split at h <;> cases h
    rename_i hv
    exact ⟨rfl, rfl, fun r => readByte_ram (by simp [State.withRep, hk]) hv⟩
  | absent =>
    rw [readByte_absent hk] at h
    cases h
    exact ⟨rfl, rfl, fun _ => readByte_absent hk⟩
  | device =>
    rw [readByte_of_device hk] at h
    obtain ⟨hcx, hpfx, hrun⟩ := deviceRead_repBlind x h
    exact ⟨hcx, hpfx, fun r => (readByte_of_device (s := s.withRep r) hk).trans (hrun r)⟩

theorem load_repBlind (w : Width) (seg off : Word) : (load w seg off).RepBlind :=
  match w with
  | .byte => .get_bind (fun _ => readByte_repBlind _) fun _ _ => rfl
  | .word => .get_bind (fun _ => .bind (readByte_repBlind _) fun _ =>
      .get_bind (fun _ => .bind (readByte_repBlind _) fun _ => .done _) fun _ _ => rfl) fun _ _ => rfl

theorem ioRead_repBlind (w : Width) (port : Word) : (ioRead w port).RepBlind :=
  .bind answer_repBlind fun _ => .bind (record_repBlind _) fun _ => .done _

theorem subOp_repBlind (w : Width) (a b : BitVec w.bits) : (subOp w a b).RepBlind :=
  .bind (.update ⟨fun _ => rfl, fun _ => rfl, fun _ _ => rfl⟩) fun _ => .done _

/-- The source's segment depends on the override read, not on F2h or F3h (43_string.md R330). -/
theorem readSource_repBlind (w : Width) : (readSource w).RepBlind :=
  .get_bind (fun _ => load_repBlind w _ _) fun _ _ => rfl

theorem readDestination_repBlind (w : Width) : (readDestination w).RepBlind :=
  .get_bind (fun _ => load_repBlind w _ _) fun _ _ => rfl

theorem movsElement_repBlind (w : Width) : (movsElement w).RepBlind :=
  .bind (readSource_repBlind w) fun v =>
    .update ((stepDi_repBlind w).comp ((stepSi_repBlind w).comp (writeDestination_repBlind w v)))

theorem cmpsElement_repBlind (w : Width) : (cmpsElement w).RepBlind :=
  .bind (readSource_repBlind w) fun a => .bind (readDestination_repBlind w) fun b => .bind (subOp_repBlind w a b) fun _ =>
    .update ((stepDi_repBlind w).comp (stepSi_repBlind w))

theorem scasElement_repBlind (w : Width) : (scasElement w).RepBlind :=
  .bind (readDestination_repBlind w) fun b =>
    .get_bind (fun _ => .bind (subOp_repBlind w _ b) fun _ => .update (stepDi_repBlind w)) fun s r => by
      rw [reg_of_regs_eq (s := s) (t := s.withRep r) rfl]

theorem lodsElement_repBlind (w : Width) : (lodsElement w).RepBlind :=
  .bind (readSource_repBlind w) fun v => .update ((stepSi_repBlind w).comp (setReg_acc_repBlind w v))

/-- The accumulator is read before the destination is written. -/
theorem stosElement_repBlind (w : Width) : (stosElement w).RepBlind :=
  .get_bind (o := fun s => Op.update fun t => (t.writeDestination w (s.reg w acc)).stepDi w)
    (fun s => .update ((stepDi_repBlind w).comp (writeDestination_repBlind w (s.reg w acc)))) fun s r => by
      rw [reg_of_regs_eq (s := s) (t := s.withRep r) rfl]

theorem insElement_repBlind (w : Width) : (insElement w).RepBlind :=
  .get_bind (fun _ => .bind (ioRead_repBlind w _) fun v => .update ((stepDi_repBlind w).comp (writeDestination_repBlind w v)))
    fun _ _ => rfl

theorem outsElement_repBlind (w : Width) : (outsElement w).RepBlind :=
  .bind (readSource_repBlind w) fun _ => .update ⟨fun _ => rfl, fun _ => rfl, fun _ _ => rfl⟩

end

/-! ### The seven instructions -/

section
variable {s t : State} {w : Width} {i : Instr} {k : RepKind}

/-- The string instructions are `stringInstr` over elements that do not look at F2h or F3h; CMPS and SCAS compare. -/
theorem exec_string (hi : i ∈ [Instr.movs w, .lods w, .stos w, .ins w, .outs w, .cmps w, .scas w]) :
    ∃ (compares : Bool) (element : Op Unit), element.RepBlind ∧ (compares = true ↔ i = .cmps w ∨ i = .scas w) ∧
      ∀ s, exec i s = runOp (stringInstr i compares element) s := by
  simp only [List.mem_cons, List.not_mem_nil, or_false] at hi
  obtain rfl | rfl | rfl | rfl | rfl | rfl | rfl := hi
  · exact ⟨false, _, movsElement_repBlind w, by simp, fun _ => rfl⟩
  · exact ⟨false, _, lodsElement_repBlind w, by simp, fun _ => rfl⟩
  · exact ⟨false, _, stosElement_repBlind w, by simp, fun _ => rfl⟩
  · exact ⟨false, _, insElement_repBlind w, by simp, fun _ => rfl⟩
  · exact ⟨false, _, outsElement_repBlind w, by simp, fun _ => rfl⟩
  · exact ⟨true, _, cmpsElement_repBlind w, by simp, fun _ => rfl⟩
  · exact ⟨true, _, scasElement_repBlind w, by simp, fun _ => rfl⟩

/-- The repeated instruction, from what it does with neither F2h nor F3h read. -/
theorem stringInstr_of_unrepeated {c : Bool} {element : Op Unit} (hel : element.RepBlind) (hrep : s.pfx.rep = some k)
    (hk : k = .repne → c = true) (hcx : s.regs.cx ≠ 0) (h : stringInstr i c element (s.withRep none) = .ok ((), t)) :
    stringInstr i c element s = .ok ((), (t.setPfx s.pfx).countDown i c k) ∧ t.regs.cx = s.regs.cx := by
  rw [stringInstr_of_rep_none rfl] at h
  obtain ⟨htcx, htpfx, hrun⟩ := hel h
  have hback : (s.withRep none).withRep (some k) = s := by
    rw [← hrep]
    rfl
  have htback : t.withRep (some k) = t.setPfx s.pfx := by
    rw [State.withRep, htpfx, ← hrep]
    rfl
  have hel' : element s = .ok ((), t.setPfx s.pfx) := by rw [← htback, ← hrun (some k), hback]
  refine ⟨?_, htcx⟩
  rw [stringInstr_of_rep_some hrep hk, if_neg hcx, Op.bind_of_ok hel', Op.update_run]

theorem checkPrefixes_refused (hrep : s.pfx.rep ≠ none) (hstr : isString i = false) (hpre : isPrefix i = false) :
    checkPrefixes i s = .error (.refused .repeatOnNonString) := by
  have hsome := Option.isSome_iff_ne_none.2 hrep
  exact if_pos (by simp [hsome, hstr, hpre])

theorem checkPrefixes_ok (h : s.pfx.rep = none ∨ isString i = true ∨ isPrefix i = true) : checkPrefixes i s = .ok () :=
  if_neg (by obtain h | h | h := h <;> simp [h])

end

/-! ### The statements -/

/-- Settles O37: with neither F2h nor F3h read an instruction is its element. -/
theorem stringElements : Obligations.StringElements := by
  rintro s t u w _ a b hrep rfl
  have hnext : ∀ {v : State} {i : Instr} {c : Bool} {element : Op Unit}, element s = .ok ((), v) →
      runOp (stringInstr i c element) s = .next v :=
    fun h => runOp_of_ok ((stringInstr_of_rep_none hrep).trans h)
  exact ⟨hnext (stosElement_run w s),
    fun h => ⟨hnext (movsElement_of_load h), hnext (lodsElement_of_load h), hnext (outsElement_of_load h),
      fun h' => hnext (cmpsElement_of_loads h h')⟩,
    fun h => hnext (scasElement_of_load h), fun h => hnext (insElement_of_ioRead h)⟩

/-- Settles O38: an element runs under F2h or F3h as it does without, and `countDown` follows it. -/
theorem repeatedStrings : Obligations.RepeatedStrings := by
  refine ⟨fun s t w k i hrep hi hk => ?_, fun s w i => ⟨fun hrep hi => ?_, checkPrefixes_refused, checkPrefixes_ok⟩⟩
  · obtain ⟨c, element, hel, hc, hexec⟩ := exec_string hi
    have htakes : k = .repne → c = true := fun h => hc.2 (hk h)
    simp only [hexec]
    refine ⟨fun hcx => runOp_of_ok ?_, fun hcx h => ?_⟩
    · rw [stringInstr_of_rep_some hrep htakes, if_pos hcx]
    · obtain ⟨hrun, htcx⟩ := stringInstr_of_unrepeated hel hrep htakes hcx (runOp_next.1 h)
      have hcompares : c = false ↔ i ≠ .cmps w ∧ i ≠ .scas w := by
        rw [← not_or, ← hc, Bool.not_eq_true]
      rw [runOp_of_ok hrun]
      simp only [State.countDown, State.setPfx_regs, State.setPfx_flags, htcx, hcompares]
  · have hnot : ¬ (i = .cmps w ∨ i = .scas w) := by rintro (rfl | rfl) <;> simp at hi
    obtain ⟨c, element, -, hc, hexec⟩ := exec_string (List.mem_append_left [.cmps w, .scas w] hi)
    rw [hexec, runOp, stringInstr_refused hrep (Bool.eq_false_iff.2 (hnot ∘ hc.1))]

end Sys2Proof.Machine

/-! ## Strings: REP STOSB over any number of steps -/

namespace Sys2Proof.Machine

section
variable {s t u : State} {i : Instr} {n m : Nat}

/-! ### A step of a repetition, with nothing else due -/

/-- Nothing but the element that comes next is due: no line will ask for anything, and there is no hold, no inhibition and no
trap (60_exceptions.md R720). -/
structure State.Undisturbed (s : State) : Prop where
  halted : s.halted = false
  waiting : s.waiting = false
  intInhibit : s.intInhibit = false
  nmiLatched : s.nmiLatched = false
  inputs : s.inputs = []
  boundary : s.boundary = none ∨ s.boundary = some false

theorem execute_of_repeating (hhalt : s.halted = false) (hwait : s.waiting = false) (hrep : s.repeating = some i) :
    execute s = runInstr i s := by
  simp [execute, hhalt, hwait, hrep]

/-- A boundary without a trap, on quiet lines, goes on to the instruction (60_exceptions.md R720 step 5). -/
theorem atBoundary_of_quiet (hinh : s.intInhibit = false) (hnmi : s.nmiLatched = false) (hintr : s.lines.intr = false) :
    atBoundary false s = execute s := by
  simp [atBoundary, hinh, hnmi, hintr]

/-- A quiet sample, the boundary if one is due, and the repeated instruction. -/
theorem step_of_undisturbed (h : s.Undisturbed) (hrep : s.repeating = some i) :
    step s = runInstr i ((s.setLines .quiet).setBoundary none) := by
  have hsample : s.sample = s.setLines .quiet := by rw [State.sample, h.inputs]
  have hexecute : execute ((s.setLines .quiet).setBoundary none) = runInstr i ((s.setLines .quiet).setBoundary none) :=
    execute_of_repeating h.halted h.waiting hrep
  rw [← hexecute, step, cycle, hsample]
  simp only [State.setLines_lines, State.setLines_boundary, Lines.quiet, Bool.false_eq_true, if_false]
  obtain hb | hb := h.boundary
  · have hdone : (s.setLines .quiet).setBoundary none = s.setLines .quiet := by
      rw [← hb]
      rfl
    rw [hb]
    exact congrArg execute hdone.symm
  · rw [hb]
    exact atBoundary_of_quiet h.intInhibit h.nmiLatched rfl

/-- Outside `isPrefix`: the boundary is due, and the prefixes are kept for the elements that remain. -/
theorem settle_of_not_isPrefix (hpre : isPrefix i = false) (tf : Bool) (s : State) :
    settle i tf s = (s.setPfx (if s.repeating.isSome then s.pfx else .none)).setBoundary (some tf) := by
  unfold settle
  simp only [hpre, Bool.false_eq_true, if_false]
  split <;> rfl

theorem run_succ_of_step (h : step s = .next t) (n : Nat) : Host.Core.run core (n + 1) s = Host.Core.run core n t := by
  have hstep : core.step s = .next t := h
  simp only [Host.Core.run, hstep]

/-! ### One element of REP STOSB -/

theorem byteAddr_zero (wrap : SegWrap) (seg off : Word) : byteAddr wrap seg off 0 = phys seg off := by
  cases wrap with
  | wrap16 => exact congrArg (phys seg) (BitVec.add_zero off)
  | linear => exact Nat.mod_mod ..

/-- The address of byte `j` that STOSB will write (43_string.md R335). -/
def State.stosbAddr (s : State) (j : Nat) : Nat := phys s.segs.es (s.regs.di + BitVec.ofNat 16 j)

/-- STOSB under F3h with DF = 0 and CX not 0: one element, and whether elements remain. -/
def State.repStosb (s : State) : State :=
  ((s.storeByte (s.stosbAddr 0) (s.reg8 .al)).setRegs { s.regs with di := s.regs.di + 1, cx := s.regs.cx - 1 }).setRepeating
    (if s.regs.cx - 1 ≠ 0 then some (.stos .byte) else none)

theorem exec_stosb_repeated (hrep : s.pfx.rep = some .rep) (hdf : s.flags.df = false) (hcx : s.regs.cx ≠ 0) :
    exec (.stos .byte) s = .next s.repStosb := by
  have haddr : byteAddr s.cfg.segWrap s.segs.es s.regs.di 0 = s.stosbAddr 0 :=
    (byteAddr_zero ..).trans (congrArg (phys s.segs.es) (BitVec.add_zero _).symm)
  have helement : stosElement .byte s =
      .ok ((), (s.storeByte (s.stosbAddr 0) (s.reg8 .al)).setReg16 .di (s.regs.di + 1)) := by
    rw [stosElement_run, State.store, haddr, State.delta, hdf]
    rfl
  refine runOp_of_ok (m := stringInstr (.stos .byte) false (stosElement .byte)) ?_
  rw [stringInstr_of_rep_some hrep nofun, if_neg hcx, Op.bind_of_ok helement, Op.update_run]
  simp only [State.countDown, State.repStosb, State.setReg16, Regs.set, State.setRegs_regs, storeByte_regs, true_or, and_true]
  rfl

/-- REP STOSB is in progress, upward, and undisturbed. -/
structure State.RepStosb (s : State) : Prop extends s.Undisturbed where
  repeating : s.repeating = some (.stos .byte)
  rep : s.pfx.rep = some .rep
  df : s.flags.df = false
  tf : s.flags.tf = false

/-- The state after a step of REP STOSB: the prefixes are kept for the elements that remain. -/
def State.repStosbStep (s : State) : State :=
  let t := ((s.setLines .quiet).setBoundary none).repStosb
  (t.setPfx (if t.repeating.isSome then t.pfx else .none)).setBoundary (some false)

theorem State.RepStosb.step_eq (h : s.RepStosb) (hcx : s.regs.cx ≠ 0) : step s = .next s.repStosbStep := by
  have hexec := exec_stosb_repeated (s := (s.setLines .quiet).setBoundary none) h.rep h.df hcx
  rw [step_of_undisturbed h.toUndisturbed h.repeating, runInstr, hexec]
  refine congrArg _ ((settle_of_not_isPrefix rfl _ _).trans ?_)
  rw [State.setBoundary_flags, State.setLines_flags, h.tf]
  rfl

theorem repStosbStep_regs (s : State) :
    s.repStosbStep.regs = { s.regs with di := s.regs.di + 1, cx := s.regs.cx - 1 } := rfl

theorem repStosbStep_repeating (s : State) :
    s.repStosbStep.repeating = if s.regs.cx - 1 ≠ 0 then some (.stos .byte) else none := rfl

theorem repStosbStep_mem (s : State) : s.repStosbStep.mem = (s.storeByte (s.stosbAddr 0) (s.reg8 .al)).mem := by
  rw [storeByte_mem]
  exact storeByte_mem ((s.setLines .quiet).setBoundary none) (s.stosbAddr 0) (s.reg8 .al)

theorem repStosbStep_pfx (hcx : s.regs.cx - 1 ≠ 0) : s.repStosbStep.pfx = s.pfx := by
  have hpfx : ((s.setLines .quiet).setBoundary none).repStosb.pfx = s.pfx := by simp [State.repStosb]
  rw [← hpfx]
  exact if_pos (congrArg Option.isSome (if_pos hcx))

theorem repStosbStep_frame (s : State) :
    s.repStosbStep.cfg = s.cfg ∧ s.repStosbStep.segs = s.segs ∧ s.repStosbStep.flags = s.flags ∧
      s.repStosbStep.halted = s.halted ∧ s.repStosbStep.waiting = s.waiting ∧ s.repStosbStep.intInhibit = s.intInhibit ∧
      s.repStosbStep.nmiLatched = s.nmiLatched ∧ s.repStosbStep.inputs = s.inputs := by
  simp [State.repStosbStep, State.repStosb]

/-- With elements left the repetition is in progress still. -/
theorem State.RepStosb.repStosbStep (h : s.RepStosb) (hcx : s.regs.cx - 1 ≠ 0) : s.repStosbStep.RepStosb := by
  obtain ⟨-, -, hflags, hhalt, hwait, hinh, hnmi, hinputs⟩ := repStosbStep_frame s
  exact {
    halted := hhalt.trans h.halted
    waiting := hwait.trans h.waiting
    intInhibit := hinh.trans h.intInhibit
    nmiLatched := hnmi.trans h.nmiLatched
    inputs := hinputs.trans h.inputs
    boundary := .inr rfl
    repeating := by rw [repStosbStep_repeating, if_pos hcx]
    rep := by rw [repStosbStep_pfx hcx, h.rep]
    df := by rw [hflags, h.df]
    tf := by rw [hflags, h.tf] }

/-! ### What the elements done so far have written -/

/-- `n` elements of REP STOSB lead from `s` to `t` (43_string.md R335). -/
structure StosbFilled (s : State) (n : Nat) (t : State) : Prop where
  cfg : t.cfg = s.cfg
  segs : t.segs = s.segs
  ax : t.regs.ax = s.regs.ax
  si : t.regs.si = s.regs.si
  di : t.regs.di = s.regs.di + BitVec.ofNat 16 n
  flags : t.flags = s.flags
  filled : ∀ j < n, kindAt s.cfg.memMap (s.stosbAddr j) = .ram → t.byteAt (s.stosbAddr j) = some (s.reg8 .al)
  others : ∀ x, (∀ j < n, x ≠ s.stosbAddr j) → t.byteAt x = s.byteAt x

theorem StosbFilled.addr (h : StosbFilled s n t) (j : Nat) : t.stosbAddr j = s.stosbAddr (n + j) := by
  rw [State.stosbAddr, h.segs, h.di, BitVec.add_assoc, ← BitVec.ofNat_add]
  rfl

theorem StosbFilled.al (h : StosbFilled s n t) : t.reg8 .al = s.reg8 .al := congrArg lowByte h.ax

/-- An address of the first `n` may be written again by the next `m`, with the same value. -/
theorem StosbFilled.trans (h : StosbFilled s n t) (h' : StosbFilled t m u) : StosbFilled s (n + m) u where
  cfg := h'.cfg.trans h.cfg
  segs := h'.segs.trans h.segs
  ax := h'.ax.trans h.ax
  si := h'.si.trans h.si
  di := by rw [h'.di, h.di, BitVec.add_assoc, ← BitVec.ofNat_add]
  flags := h'.flags.trans h.flags
  filled j hj hram := by
    by_cases hlater : ∃ k < m, s.stosbAddr j = t.stosbAddr k
    · obtain ⟨k, hk, hsame⟩ := hlater
      rw [hsame, ← h.al]
      exact h'.filled k hk (by rwa [h.cfg, ← hsame])
    · push Not at hlater
      rw [h'.others _ hlater]
      refine h.filled j ?_ hram
      by_contra hn
      refine hlater (j - n) (by omega) ?_
      rw [h.addr, Nat.add_sub_cancel' (Nat.le_of_not_lt hn)]
  others x hx := by
    have hlater : ∀ k < m, x ≠ t.stosbAddr k := fun k hk => h.addr k ▸ hx (n + k) (by omega)
    rw [h'.others x hlater, h.others x fun j hj => hx j (by omega)]

theorem repStosbStep_filled (s : State) : StosbFilled s 1 s.repStosbStep := by
  obtain ⟨hcfg, hsegs, hflags, -⟩ := repStosbStep_frame s
  have hbyte : ∀ x, s.repStosbStep.byteAt x = (s.storeByte (s.stosbAddr 0) (s.reg8 .al)).byteAt x :=
    fun x => congrArg (Memory.lookup · x) (repStosbStep_mem s)
  refine ⟨hcfg, hsegs, rfl, rfl, rfl, hflags, fun j hj hram => ?_, fun x hx => ?_⟩
  · obtain rfl : j = 0 := Nat.lt_one_iff.1 hj
    rw [hbyte, byteAt_storeByte_same hram]
  · rw [hbyte, byteAt_storeByte_other (hx 0 Nat.one_pos)]

/-- As many steps as elements are left end the repetition. -/
theorem State.RepStosb.run (n : Nat) : ∀ {s : State}, s.RepStosb → s.regs.cx.toNat = n + 1 →
    ∃ t, Host.Core.run core (n + 1) s = .next t ∧ t.repeating = none ∧ t.regs.cx = 0 ∧ StosbFilled s (n + 1) t := by
  induction n with
  | zero =>
    intro s h hcx
    have hone : s.regs.cx = 1 := BitVec.eq_of_toNat_eq hcx
    refine ⟨s.repStosbStep, run_succ_of_step (h.step_eq (by simp [hone])) 0, ?_, ?_, repStosbStep_filled s⟩
    · simp [repStosbStep_repeating, hone]
    · simp [repStosbStep_regs, hone]
  | succ n ih =>
    intro s h hcx
    have hleft : (s.regs.cx - 1).toNat = n + 1 := by bv_omega
    have hne : s.regs.cx - 1 ≠ 0 := fun h0 => by rw [h0] at hleft; cases hleft
    obtain ⟨t, hrun, hrep, hzero, hfill⟩ := ih (h.repStosbStep hne) (by rwa [repStosbStep_regs])
    refine ⟨t, (run_succ_of_step (h.step_eq fun h0 => ?_) (n + 1)).trans hrun, hrep, hzero, ?_⟩
    · simp [h0] at hcx
    · rw [Nat.add_comm]
      exact (repStosbStep_filled s).trans hfill

end

/-- Settles O39: by induction on the elements left, each step being one element that writes the next byte. -/
theorem repStosbFillsMemory : Obligations.RepStosbFillsMemory := by
  intro s n hrep hpfx hcx hn hdf htf hhalt hwait hinh hnmi hinputs hb
  obtain ⟨n, rfl⟩ := Nat.exists_eq_succ_of_ne_zero hn
  have hs : s.RepStosb := ⟨⟨hhalt, hwait, hinh, hnmi, hinputs, hb⟩, hrep, hpfx, hdf, htf⟩
  obtain ⟨t, hrun, hend, hzero, hfill⟩ := hs.run n hcx
  exact ⟨t, hrun, hend, hzero, hfill.di, hfill.ax, hfill.si, hfill.flags, hfill.filled, hfill.others⟩

end Sys2Proof.Machine

/-! ## The stack: the words above the top, and what pushes do not reach -/

namespace Sys2Proof.Machine

section
variable {s t : State} {v w off : Word} {k n : Nat}

/-! ### Pushes after one another -/

theorem sub_two_sub_word (x : Word) (j : Nat) : x - 2 - BitVec.ofNat 16 (2 * j) = x - BitVec.ofNat 16 (2 * (j + 1)) := by
  rw [sub_right_comm, sub_word_sub_two]

/-- The bytes of the pushes after the first. -/
theorem pushBytes_push16_subset (s : State) (v : Word) (k : Nat) : (s.push16 v).pushBytes k ⊆ s.pushBytes (k + 1) := by
  intro x hx
  obtain ⟨i, hi, hx⟩ := List.mem_flatMap.1 hx
  rw [accessBytes_of_cfg (push16_cfg s v), push16_segs, push16_regs] at hx
  exact accessBytes_subset_pushBytes s (Nat.succ_lt_succ (List.mem_range.1 hi)) (sub_two_sub_word s.regs.sp (i + 1) ▸ hx)

theorem allRam_push16 (h : s.AllRam (s.pushBytes (k + 1))) (v : Word) : (s.push16 v).AllRam ((s.push16 v).pushBytes k) := by
  intro x hx
  rw [push16_cfg]
  exact h x (pushBytes_push16_subset s v k hx)

/-- SP lowered and raised again: every register is as it was. -/
theorem Regs.set_sp_sub_add (r : Regs) (x : Word) :
    (r.set .sp (r.sp - x)).set .sp ((r.set .sp (r.sp - x)).sp + x) = r := by
  have hsp : r.sp - x + x = r.sp := sub_add_cancel ..
  exact congrArg (r.set .sp) hsp

theorem push16_push16_regs (s : State) (v w : Word) :
    ((s.push16 v).push16 w).regs = s.regs.set .sp (s.regs.sp - 4) := by
  have hsp : s.regs.sp - 2 - 2 = s.regs.sp - 4 := sub_sub ..
  rw [push16_regs, push16_regs, ← hsp]
  rfl

/-! ### Words above the top -/

/-- The word `v` is held at SS:`off`, `k` words above the top of the stack. -/
structure State.Stacked (s : State) (off v : Word) (k : Nat) : Prop where
  sp : s.regs.sp = off - BitVec.ofNat 16 (2 * k)
  word : s.HoldsWord s.segs.ss off v

theorem stacked_push16 (h : s.AllRam (s.pushBytes (k + 1))) (v : Word) : (s.push16 v).Stacked (s.regs.sp - 2) v 0 where
  sp := by simp [Regs.set]
  word := by
    rw [push16_segs]
    exact holdsWord_push16 (fun x hx => h x (accessBytes_subset_pushBytes s (Nat.succ_pos k) hx)) v

/-- Only SP, SS, the parameters and memory count. -/
theorem State.Stacked.of_same (h : s.Stacked off v k) (hsp : t.regs.sp = s.regs.sp) (hss : t.segs.ss = s.segs.ss)
    (hcfg : t.cfg = s.cfg) (hmem : t.mem = s.mem) : t.Stacked off v k where
  sp := hsp.trans h.sp
  word := by
    rw [hss]
    exact h.word.of_agree hcfg fun _ _ => congrArg (Memory.lookup · _) hmem

theorem State.Stacked.jump (h : s.Stacked off v k) (x : Word) : (s.jump x).Stacked off v k := h.of_same rfl rfl rfl rfl

theorem State.Stacked.jumpFar (h : s.Stacked off v k) (seg x : Word) : (s.jumpFar seg x).Stacked off v k :=
  h.of_same rfl rfl rfl rfl

/-- A push leaves the words above it, up to a whole segment of them. -/
theorem State.Stacked.push16 (h : s.Stacked off v k) (hk : k + 1 < 2 ^ 15) (w : Word) :
    (s.push16 w).Stacked off v (k + 1) where
  sp := by
    rw [push16_regs, ← sub_word_sub_two, ← h.sp]
    rfl
  word := by
    have hoff : off.toNat % 2 = (s.regs.sp - 2).toNat % 2 ∧ off ≠ s.regs.sp - 2 := by
      rw [h.sp, sub_word_sub_two, Ne, ← BitVec.toNat_inj]
      simp only [BitVec.toNat_sub, BitVec.toNat_ofNat]
      omega
    obtain ⟨heven, hne⟩ := hoff
    rw [push16_segs]
    exact h.word.of_agree (push16_cfg s w) fun x hx => byteAt_push16_other (accessBytes_word_disjoint s heven hne hx) w

theorem State.Stacked.top (h : s.Stacked off v 0) : s.HoldsWord s.segs.ss s.regs.sp v := by
  have hsp : s.regs.sp = off := by simpa using h.sp
  exact hsp ▸ h.word

/-- The word `k` words above the top, at SS:SP + 2k. -/
theorem State.Stacked.above (h : s.Stacked off v k) :
    s.HoldsWord s.segs.ss (s.regs.sp + BitVec.ofNat 16 (2 * k)) v := by
  rw [h.sp, BitVec.sub_add_cancel]
  exact h.word

/-! ### Words that pushes do not reach -/

/-- The word `w` is held at SS:`off`, apart from the next `n` words pushed. -/
structure State.Unpushed (s : State) (off w : Word) (n : Nat) : Prop where
  word : s.HoldsWord s.segs.ss off w
  apart : ∀ x ∈ s.accessBytes .word s.segs.ss off, x ∉ s.pushBytes n

theorem State.Unpushed.push16 (h : s.Unpushed off w (n + 1)) (v : Word) : (s.push16 v).Unpushed off w n where
  word := by
    rw [push16_segs]
    exact h.word.of_agree (push16_cfg s v) fun x hx => byteAt_push16_other
      (fun hx' => h.apart x hx (accessBytes_subset_pushBytes s (Nat.succ_pos n) hx')) v
  apart x hx hx' := by
    rw [accessBytes_of_cfg (push16_cfg s v), push16_segs] at hx
    exact h.apart x hx (pushBytes_push16_subset s v n hx')

theorem State.Unpushed.setReg16_bp (h : s.Unpushed off w n) (x : Word) : (s.setReg16 .bp x).Unpushed off w n :=
  ⟨h.word, h.apart⟩

theorem State.Unpushed.mono (h : s.Unpushed off w k) (hn : n ≤ k) : s.Unpushed off w n :=
  ⟨h.word, fun x hx hx' => h.apart x hx (pushBytes_subset s hn hx')⟩

/-! ### Pushes do not look at the other registers and at FLAGS -/

/-- A store neither reads nor writes the general registers and FLAGS. -/
theorem storeByte_setRegs_setFlags (s : State) (r : Regs) (f : Flags) (x : Nat) (v : Byte) :
    ((s.setRegs r).setFlags f).storeByte x v = ((s.storeByte x v).setRegs r).setFlags f := by
  have hnote : ((s.setRegs r).setFlags f).noteStale x = ((s.noteStale x).setRegs r).setFlags f := by
    have hpre : ((s.setRegs r).setFlags f).mayBePrefetched x = s.mayBePrefetched x := rfl
    rw [State.noteStale, State.noteStale, hpre]
    split <;> rfl
  cases hk : kindAt s.cfg.memMap x <;> simp only [State.storeByte, State.setRegs_cfg, State.setFlags_cfg, hk, hnote] <;> rfl

/-- Of the general registers and FLAGS, a push reads and writes SP alone. -/
theorem push16_setRegs_setFlags {r : Regs} (h : r.sp = s.regs.sp) (f : Flags) (v : Word) :
    ((s.setRegs r).setFlags f).push16 v = ((s.push16 v).setRegs (r.set .sp (s.regs.sp - 2))).setFlags f := by
  rw [← h]
  show (((((s.setReg16 .sp (s.regs.sp - 2)).setRegs _).setFlags f).storeByte _ _).storeByte _ _) = _
  rw [storeByte_setRegs_setFlags, storeByte_setRegs_setFlags]
  simp only [State.setRegs_regs, State.setFlags_regs, h]
  rfl

theorem push16_setFlags (s : State) (f : Flags) (v : Word) : (s.setFlags f).push16 v = (s.push16 v).setFlags f := by
  have h := push16_setRegs_setFlags (rfl : s.regs.sp = s.regs.sp) f v
  rw [← push16_regs s v] at h
  exact h

theorem push16_setReg16_bp (s : State) (x v : Word) : (s.setReg16 .bp x).push16 v = (s.push16 v).setReg16 .bp x := by
  have h := push16_setRegs_setFlags (s := s) (r := s.regs.set .bp x) rfl s.flags v
  show (s.setReg16 .bp x).push16 v = (s.push16 v).setRegs ((s.push16 v).regs.set .bp x)
  rw [push16_regs]
  refine h.trans ?_
  rw [← push16_flags s v]
  rfl

theorem foldl_push16_setReg16_bp (vs : List Word) (x : Word) :
    ∀ s : State, vs.foldl State.push16 (s.setReg16 .bp x) = (vs.foldl State.push16 s).setReg16 .bp x := by
  induction vs with
  | nil => exact fun _ => rfl
  | cons v vs ih =>
    intro s
    rw [List.foldl_cons, push16_setReg16_bp, ih, List.foldl_cons]

end

end Sys2Proof.Machine

/-! ## Control transfers: jumps, calls and returns -/

namespace Sys2Proof.Machine

section
variable {s t u : State} {v off a c : Word} {k : Nat}

/-! ### Short jumps -/

/-- A condition that says `p` decides the jump (44_control_transfer.md R360). -/
theorem jumpShortIf_eq {p : Prop} [Decidable p] {d : Bool} (h : d = true ↔ p) (s : State) (b : Byte) :
    s.jumpShortIf d b = if p then s.jump (s.ip + b.signExtend 16) else s :=
  if_congr h rfl rfl

/-- CX is tested after it is decremented (44_control_transfer.md R400 to R402). -/
theorem loopIf_eq {p : Prop} [Decidable p] {d : Bool} (h : d = true ↔ p) (s : State) (b : Byte) :
    s.loopIf d b = if s.regs.cx ≠ 1 ∧ p then (s.setReg16 .r1 (s.regs.cx - 1)).jump (s.ip + b.signExtend 16)
      else s.setReg16 .r1 (s.regs.cx - 1) := by
  refine jumpShortIf_eq ?_ (s.setReg16 .r1 (s.regs.cx - 1)) b
  show (s.regs.cx - 1 != 0 && d) = true ↔ _
  rw [Bool.and_eq_true, bne_iff_ne, ne_eq, sub_eq_zero, h]

/-! ### What a jump leaves alone -/

@[simp] theorem State.jump_regs (s : State) (x : Word) : (s.jump x).regs = s.regs := rfl

@[simp] theorem State.jumpFar_regs (s : State) (seg x : Word) : (s.jumpFar seg x).regs = s.regs := rfl

@[simp] theorem State.jumpFar_segs (s : State) (seg x : Word) : (s.jumpFar seg x).segs = s.segs.set .cs seg := rfl

@[simp] theorem State.jumpFar_flags (s : State) (seg x : Word) : (s.jumpFar seg x).flags = s.flags := rfl

/-! ### Returns, from what the loads of the words at SS:SP answer -/

/-- R365, R366: the word popped goes to IP, and the immediate is added after. -/
theorem returnNear_of_load (h : load .word s.segs.ss s.regs.sp s = .ok (a, t)) (n : Word) :
    returnNear n s = .ok ((), (t.jump a).setReg16 .sp (s.regs.sp + 2 + n)) :=
  Op.bind_of_ok (pop16_of_load h)

/-- R367, R368: IP is below CS. -/
theorem returnFar_of_loads (h : load .word s.segs.ss s.regs.sp s = .ok (a, t))
    (h' : load .word s.segs.ss (s.regs.sp + 2) (t.setReg16 .sp (s.regs.sp + 2)) = .ok (c, u)) (n : Word) :
    returnFar n s = .ok ((), ((u.setSreg .cs c).jump a).setReg16 .sp (s.regs.sp + 4 + n)) := by
  have hss : (t.setReg16 .sp (s.regs.sp + 2)).segs.ss = s.segs.ss := by
    obtain ⟨b, l, d, rfl⟩ := load_ok h
    rfl
  have hcs := pop16_of_load (s := t.setReg16 .sp (s.regs.sp + 2)) (hss.symm ▸ h')
  have hsp : s.regs.sp + 4 + n = s.regs.sp + 2 + 2 + n := by rw [BitVec.add_assoc s.regs.sp 2 2]; rfl
  rw [hsp]
  exact (Op.bind_of_ok (pop16_of_load h)).trans (Op.bind_of_ok hcs)

theorem exec_ret_of_holdsWord (h : s.HoldsWord s.segs.ss s.regs.sp a) :
    ∃ u, exec .ret s = .next u ∧ u.ip = a ∧ u.regs = s.regs.set .sp (s.regs.sp + 2) ∧ u.segs = s.segs ∧
      u.flags = s.flags := by
  refine ⟨(s.jump a).setReg16 .sp (s.regs.sp + 2), ?_, rfl, rfl, rfl, rfl⟩
  rw [← add_zero (s.regs.sp + 2)]
  exact runOp_of_ok (returnNear_of_load h.load 0)

theorem exec_retf_of_holdsWord (ha : s.HoldsWord s.segs.ss s.regs.sp a) (hc : s.HoldsWord s.segs.ss (s.regs.sp + 2) c) :
    ∃ u, exec .retf s = .next u ∧ u.ip = a ∧ u.regs = s.regs.set .sp (s.regs.sp + 4) ∧ u.segs = s.segs.set .cs c ∧
      u.flags = s.flags := by
  refine ⟨((s.setSreg .cs c).jump a).setReg16 .sp (s.regs.sp + 4), ?_, rfl, rfl, rfl, rfl⟩
  have hload := State.HoldsWord.load (s := s.setReg16 .sp (s.regs.sp + 2)) hc
  rw [← add_zero (s.regs.sp + 4)]
  exact runOp_of_ok (returnFar_of_loads ha.load hload 0)

/-! ### Far calls -/

theorem callFar_regs (s : State) (seg off : Word) : (s.callFar seg off).regs = s.regs.set .sp (s.regs.sp - 4) := by
  rw [State.callFar, State.jumpFar_regs, push16_push16_regs]

theorem callFar_segs (s : State) (seg off : Word) : (s.callFar seg off).segs = s.segs.set .cs seg := by
  rw [State.callFar, State.jumpFar_segs, push16_segs, push16_segs]

theorem callFar_flags (s : State) (seg off : Word) : (s.callFar seg off).flags = s.flags := by
  rw [State.callFar, State.jumpFar_flags, push16_flags, push16_flags]

end

/-! ### The statements -/

/-- Settles O40: each jump on its condition of the table, each loop on CX and ZF. -/
theorem conditionalTransfers : Obligations.ConditionalTransfers := by
  intro s b
  have hjump {i : Instr} {d : Bool} {p : Prop} [Decidable p] (hi : exec i s = .next (s.jumpShortIf d b))
      (h : d = true ↔ p) : exec i s = .next (if p then s.jump (s.ip + b.signExtend 16) else s) :=
    hi.trans (congrArg _ (jumpShortIf_eq h s b))
  have hnot {x : Bool} : (!x) = true ↔ x = false := Bool.not_eq_true' x ▸ .rfl
  have hor {x y : Bool} {p : Prop} (h : y = true ↔ p) : (x || y) = true ↔ x = true ∨ p := by rw [Bool.or_eq_true, h]
  have hand {x y : Bool} {p : Prop} (h : y = true ↔ p) : (!x && y) = true ↔ x = false ∧ p := by
    rw [Bool.and_eq_true, hnot, h]
  have hloop := loopIf_eq (iff_true_intro (rfl : true = true)) s b
  simp only [and_true] at hloop
  exact ⟨hjump rfl .rfl, hjump rfl hnot, -- OF
    hjump rfl .rfl, hjump rfl hnot, -- CF
    hjump rfl .rfl, hjump rfl hnot, -- ZF
    hjump rfl (hor .rfl), hjump rfl (hand hnot), -- CF or ZF
    hjump rfl .rfl, hjump rfl hnot, -- SF
    hjump rfl .rfl, hjump rfl hnot, -- PF
    hjump rfl bne_iff_ne, hjump rfl beq_iff_eq, -- SF ≠ OF
    hjump rfl (hor bne_iff_ne), hjump rfl (hand beq_iff_eq), -- ZF or SF ≠ OF
    hjump rfl beq_iff_eq, congrArg _ hloop, congrArg _ (loopIf_eq .rfl s b), congrArg _ (loopIf_eq hnot s b), rfl⟩

/-- Settles O41: the direct forms by their meanings, the others from the reads that they make first. -/
theorem jumpsCallsReturns : Obligations.JumpsCallsReturns := by
  intro s t u b v off seg a c rm m
  refine ⟨rfl, rfl, rfl, rfl, rfl, fun h => ?_, fun h => ?_, fun h => ?_⟩
  · have hcall : exec (.callRm rm) s = .next ((t.push16 t.ip).jump a) := runOp_of_ok (Op.bind_of_ok h)
    refine ⟨runOp_of_ok (Op.bind_of_ok h), ?_⟩
    obtain ⟨l, e, d, rfl⟩ := readRM_ok h
    exact hcall
  · have hcall : exec (.callFarMem m) s = .next (t.callFar c a) := runOp_of_ok (Op.bind_of_ok h)
    refine ⟨runOp_of_ok (Op.bind_of_ok h), ?_⟩
    obtain ⟨l, e, d, rfl⟩ := readPair_ok h
    exact hcall
  · have hret := returnNear_of_load h 0
    rw [add_zero] at hret
    refine ⟨runOp_of_ok hret, runOp_of_ok (returnNear_of_load h v), fun h' => ?_⟩
    have hretf := returnFar_of_loads h h' 0
    rw [add_zero] at hretf
    exact ⟨runOp_of_ok hretf, runOp_of_ok (returnFar_of_loads h h' v)⟩

/-- Settles O42: the call leaves its return address on the stack, where the return finds it. -/
theorem callThenReturn : Obligations.CallThenReturn := by
  intro s t v off seg
  refine ⟨fun hram hcall => ?_, fun hram hcall => ?_⟩
  · cases hcall
    have hip := (stacked_push16 hram s.ip).jump (s.ip + v)
    obtain ⟨u, hret, hu, hregs, hsegs, hflags⟩ := exec_ret_of_holdsWord hip.top
    refine ⟨u, hret, hu, ?_, hsegs.trans (push16_segs s s.ip), hflags.trans (push16_flags s s.ip)⟩
    rw [hregs, State.jump_regs, push16_regs, Regs.set_sp_sub_add]
  · cases hcall
    have hcs : (s.callFar seg off).Stacked (s.regs.sp - 2) s.segs.cs 1 :=
      ((stacked_push16 hram s.segs.cs).push16 (by decide) s.ip).jumpFar seg off
    have hip : (s.callFar seg off).Stacked ((s.push16 s.segs.cs).regs.sp - 2) s.ip 0 :=
      (stacked_push16 (allRam_push16 hram s.segs.cs) s.ip).jumpFar seg off
    obtain ⟨u, hretf, hu, hregs, hsegs, hflags⟩ := exec_retf_of_holdsWord hip.top hcs.above
    refine ⟨u, hretf, hu, ?_, ?_, hflags.trans (callFar_flags s seg off)⟩
    · rw [hregs, callFar_regs, Regs.set_sp_sub_add]
    · rw [hsegs, callFar_segs]
      rfl

end Sys2Proof.Machine

/-! ## Control transfers: the return from an interrupt -/

namespace Sys2Proof.Machine

section
variable {s t : State} {ip cs fl ret : Word} {n : Byte}

/-- The words at SS:SP are popped in the order IP, CS, FLAGS (44_control_transfer.md R413). -/
theorem exec_iret_of_holdsWord (hip : s.HoldsWord s.segs.ss s.regs.sp ip) (hcs : s.HoldsWord s.segs.ss (s.regs.sp + 2) cs)
    (hfl : s.HoldsWord s.segs.ss (s.regs.sp + 4) fl) :
    exec .iret s = .next ((((s.setSreg .cs cs).jump ip).setReg16 .sp (s.regs.sp + 6)).setFlags (Flags.ofWord fl)) := by
  have hsp4 : s.regs.sp + 2 + 2 = s.regs.sp + 4 := add_assoc ..
  have hsp6 : s.regs.sp + 4 + 2 = s.regs.sp + 6 := add_assoc ..
  have hpop2 : pop16 (s.setReg16 .sp (s.regs.sp + 2)) = .ok (cs, s.setReg16 .sp (s.regs.sp + 4)) := by
    rw [← hsp4]
    exact State.HoldsWord.pop16 (s := s.setReg16 .sp (s.regs.sp + 2)) hcs
  have hpop3 : pop16 (s.setReg16 .sp (s.regs.sp + 4)) = .ok (fl, s.setReg16 .sp (s.regs.sp + 6)) := by
    rw [← hsp6]
    exact State.HoldsWord.pop16 (s := s.setReg16 .sp (s.regs.sp + 4)) hfl
  exact runOp_of_ok ((Op.bind_of_ok hip.pop16).trans ((Op.bind_of_ok hpop2).trans (Op.bind_of_ok hpop3)))

/-- What an interrupt sequence leaves for IRET: the three words it pushed, and registers as they were but SP and CS
(60_exceptions.md R710, R711). -/
structure State.Saved (s : State) (ret : Word) (t : State) : Prop where
  ip : t.Stacked (s.regs.sp - 6) ret 0
  cs : t.Stacked (s.regs.sp - 4) s.segs.cs 1
  flags : t.Stacked (s.regs.sp - 2) s.flagsWord 2
  regs : t.regs = s.regs.set .sp (s.regs.sp - 6)
  segs : ∃ c, t.segs = s.segs.set .cs c

theorem pushes_saved (hram : s.AllRam (s.pushBytes 3)) (ret : Word) :
    s.Saved ret (((s.push16 s.flagsWord).push16 s.segs.cs).push16 ret) := by
  have hsp4 : s.regs.sp - 2 - 2 = s.regs.sp - 4 := sub_sub ..
  have hsp6 : s.regs.sp - 4 - 2 = s.regs.sp - 6 := sub_sub ..
  have hsp1 : (s.push16 s.flagsWord).regs.sp = s.regs.sp - 2 := congrArg Regs.sp (push16_regs ..)
  have hsp2 : ((s.push16 s.flagsWord).push16 s.segs.cs).regs.sp = s.regs.sp - 4 := congrArg Regs.sp (push16_push16_regs ..)
  have hram1 := allRam_push16 hram s.flagsWord
  have hcs := stacked_push16 hram1 s.segs.cs
  have hret := stacked_push16 (allRam_push16 hram1 s.segs.cs) ret
  rw [hsp1, hsp4] at hcs
  rw [hsp2, hsp6] at hret
  have hflags := ((stacked_push16 hram s.flagsWord).push16 (by decide) s.segs.cs).push16 (by decide) ret
  refine ⟨hret, hcs.push16 (by decide) ret, hflags, ?_, s.segs.cs, ?_⟩
  · rw [push16_regs, push16_push16_regs, ← hsp6]
    rfl
  · rw [push16_segs, push16_segs, push16_segs]
    rfl

/-- The transfer to the handler leaves the stack alone. -/
theorem State.Saved.toHandler (h : s.Saved ret t) (f : Flags) (seg off : Word) :
    s.Saved ret ((((t.setFlags f).jumpFar seg off).setHalted false).setWaiting false) where
  ip := h.ip.of_same rfl rfl rfl rfl
  cs := h.cs.of_same rfl rfl rfl rfl
  flags := h.flags.of_same rfl rfl rfl rfl
  regs := h.regs
  segs := by
    obtain ⟨c, hc⟩ := h.segs
    refine ⟨seg, ?_⟩
    show t.segs.set .cs seg = s.segs.set .cs seg
    rw [hc]
    rfl

theorem interrupt_saved (hram : s.AllRam (s.pushBytes 3)) (h : interrupt n ret s = .ok ((), t)) : s.Saved ret t := by
  obtain ⟨newIp, newCs, r, u, hip, hcs, rfl⟩ := interrupt_ok h
  rw [push16_setFlags, push16_setFlags]
  obtain ⟨a, l, d, rfl⟩ := load_ok hip
  obtain ⟨a', l', d', rfl⟩ := load_ok hcs
  have hpush := pushes_saved (s := ((s.setAnswers a').setEvents l').setDraws d') hram ret
  obtain ⟨hip, hcs, hflags, hregs, hsegs⟩ := hpush.toHandler { s.flags with ifl := false, tf := false } newCs newIp
  exact ⟨hip, hcs, hflags, hregs, hsegs⟩

end

/-- Settles O46 (`interruptReturn` itself names the model's operation): IRET pops the words of memory, which after
an interrupt sequence are those that it pushed. -/
theorem interruptReturn_restores : Obligations.InterruptReturn := by
  intro s t ip cs fl ret n
  refine ⟨fun hip hcs hfl => exec_iret_of_holdsWord hip hcs hfl, fun hram h => ?_⟩
  have hsaved := interrupt_saved hram (runOp_next.1 h)
  obtain ⟨newCs, hsegs⟩ := hsaved.segs
  refine ⟨_, exec_iret_of_holdsWord hsaved.ip.top hsaved.cs.above hsaved.flags.above, rfl, ?_,
    (flagsWordBits s.cfg s.flags 0).1, ?_⟩
  · show t.segs.set .cs s.segs.cs = s.segs
    rw [hsegs]
    rfl
  · show t.regs.set .sp (t.regs.sp + 6) = s.regs
    rw [hsaved.regs, Regs.set_sp_sub_add]

end Sys2Proof.Machine

/-! ## Control transfers: ENTER and LEAVE -/

namespace Sys2Proof.Machine

section
variable {s t u : State} {v w off : Word} {n : Nat}

/-! ### The copies of the enclosing frames -/

/-- One copy: the word at SS:BP - 2 is read and pushed (44_control_transfer.md R415). -/
theorem enterCopies_succ (n : Nat) (s : State) : enterCopies (n + 1) s =
    (load .word s.segs.ss (s.regs.bp - 2) >>= fun v => Op.update (·.push16 v) >>= fun _ => enterCopies n)
      (s.setReg16 .bp (s.regs.bp - 2)) := rfl

/-- The copies that go on, whatever they read, leave a word above them where it is. -/
theorem enterCopies_stacked (n : Nat) : ∀ {k : Nat} {s : State}, s.Stacked off w k → k + n < 2 ^ 15 →
    enterCopies n s = .ok ((), t) → t.Stacked off w (k + n) := by
  induction n with
  | zero =>
    intro k s hs _ h
    cases h
    exact hs
  | succ n ih =>
    intro k s hs hk h
    rw [enterCopies_succ] at h
    obtain ⟨v, s1, hload, h⟩ := Op.bind_ok h
    obtain ⟨b, l, d, rfl⟩ := load_ok hload
    have hs1 := hs.of_same (t := (((s.setReg16 .bp (s.regs.bp - 2)).setAnswers b).setEvents l).setDraws d) rfl rfl rfl rfl
    rw [← Nat.add_assoc, Nat.add_right_comm]
    exact ih (hs1.push16 (by omega) v) (by omega) h

/-- Where the words below SS:BP are apart from the words pushed, the copies push them as they are. -/
theorem enterCopies_of_unpushed (vs : List Word) : ∀ {s : State},
    (∀ p ∈ vs.zipIdx, s.Unpushed (s.regs.bp - BitVec.ofNat 16 (2 * (p.2 + 1))) p.1 vs.length) →
    enterCopies vs.length s =
      .ok ((), (vs.foldl State.push16 s).setReg16 .bp (s.regs.bp - BitVec.ofNat 16 (2 * vs.length))) := by
  induction vs with
  | nil =>
    intro s _
    simp [enterCopies, State.setReg16, Regs.set, State.setRegs]
  | cons v vs ih =>
    intro s h
    have hfirst := h (v, 0) (by simp)
    have hload : load .word s.segs.ss (s.regs.bp - 2) (s.setReg16 .bp (s.regs.bp - 2)) =
        .ok (v, s.setReg16 .bp (s.regs.bp - 2)) :=
      (hfirst.setReg16_bp (s.regs.bp - 2)).word.load
    have hrest : ∀ p ∈ vs.zipIdx, ((s.push16 v).setReg16 .bp (s.regs.bp - 2)).Unpushed
        (s.regs.bp - 2 - BitVec.ofNat 16 (2 * (p.2 + 1))) p.1 vs.length := by
      rintro ⟨q, i⟩ hq
      have hmem : (q, i + 1) ∈ (v :: vs).zipIdx := by
        rw [List.zipIdx_cons', List.mem_cons]
        exact .inr (List.mem_map.2 ⟨(q, i), hq, rfl⟩)
      rw [sub_two_sub_word]
      exact ((h _ hmem).push16 v).setReg16_bp _
    have hcopies := ih hrest
    rw [foldl_push16_setReg16_bp] at hcopies
    rw [List.length_cons, enterCopies_succ, Op.bind_of_ok hload, Op.bind_of_ok (Op.update_run _ _), push16_setReg16_bp, hcopies,
      List.foldl_cons, ← sub_two_sub_word]
    rfl

/-! ### ENTER and LEAVE as operations -/

theorem enterOp_zero (size : Word) (s : State) : enterOp size 0 s =
    .ok ((), ((s.push16 s.regs.bp).setReg16 .bp (s.regs.sp - 2)).setReg16 .sp (s.regs.sp - 2 - size)) := by
  have hsp : (s.push16 s.regs.bp).regs.sp = s.regs.sp - 2 := congrArg Regs.sp (push16_regs s _)
  rw [← hsp]
  rfl

/-- Above level 0, the copies and the frame's own address are pushed below the old BP (44_control_transfer.md R415). -/
theorem enterOp_succ (size : Word) (n : Nat) (s : State) : enterOp size (n + 1) s =
    (enterCopies n >>= fun _ => Op.update fun u =>
      ((u.push16 (s.regs.sp - 2)).setReg16 .bp (s.regs.sp - 2)).setReg16 .sp ((u.push16 (s.regs.sp - 2)).regs.sp - size))
        (s.push16 s.regs.bp) := by
  have hsp : (s.push16 s.regs.bp).regs.sp = s.regs.sp - 2 := congrArg Regs.sp (push16_regs s _)
  rw [← hsp]
  rfl

theorem State.HoldsWord.setReg16 {seg : Word} (h : s.HoldsWord seg off w) (r : RegNum) (x : Word) :
    (s.setReg16 r x).HoldsWord seg off w := h

/-- ENTER leaves BP at the old BP's word, whatever it copies. -/
theorem enterOp_frame {level : Nat} (hlevel : level < 2 ^ 15) (hram : s.AllRam (s.pushBytes 1))
    (h : enterOp v level s = .ok ((), t)) : t.regs.bp = s.regs.sp - 2 ∧ t.HoldsWord t.segs.ss t.regs.bp s.regs.bp := by
  have hold := stacked_push16 hram s.regs.bp
  cases level with
  | zero =>
    rw [enterOp_zero] at h
    cases h
    exact ⟨rfl, (hold.word.setReg16 .bp _).setReg16 .sp _⟩
  | succ n =>
    rw [enterOp_succ] at h
    obtain ⟨_, u, hcopies, h⟩ := Op.bind_ok h
    cases h
    have hend := (enterCopies_stacked n hold (by omega) hcopies).push16 (by omega) (s.regs.sp - 2)
    exact ⟨rfl, (hend.word.setReg16 .bp _).setReg16 .sp _⟩

theorem exec_enter_zero (v : Word) (b : Byte) (h : b.toNat % 32 = 0) (s : State) : exec (.enter v b) s =
    .next (((s.push16 s.regs.bp).setReg16 .bp (s.regs.sp - 2)).setReg16 .sp (s.regs.sp - 2 - v)) := by
  refine runOp_of_ok ?_
  rw [h]
  exact enterOp_zero v s

theorem exec_enter_of_copies {b : Byte} (h : b.toNat % 32 = n + 1) (hcopies : enterCopies n (s.push16 s.regs.bp) = .ok ((), u))
    (v : Word) : exec (.enter v b) s =
      .next (((u.push16 (s.regs.sp - 2)).setReg16 .bp (s.regs.sp - 2)).setReg16 .sp (u.regs.sp - 2 - v)) := by
  refine runOp_of_ok ?_
  have hsp : (u.push16 (s.regs.sp - 2)).regs.sp = u.regs.sp - 2 := congrArg Regs.sp (push16_regs u _)
  rw [h, enterOp_succ, ← hsp]
  exact Op.bind_of_ok hcopies

theorem exec_leave_of_load (h : load .word s.segs.ss s.regs.bp (s.setReg16 .sp s.regs.bp) = .ok (w, u)) :
    exec .leave s = .next ((u.setReg16 .sp (s.regs.bp + 2)).setReg16 .bp w) :=
  runOp_of_ok <| (Op.bind_of_ok (Op.update_run _ s)).trans <| (Op.bind_of_ok (pop16_of_load (s := s.setReg16 .sp s.regs.bp) h))

/-! ### The frame that ENTER builds above level 0 -/

/-- What ENTER pushes: the old BP, the copies `vs`, and the frame's own address (44_control_transfer.md R415). -/
def State.frameWords (s : State) (vs : List Word) : List Word := s.regs.bp :: vs ++ [s.regs.sp - 2]

/-- The state after those pushes, with BP at the frame and SP below its locals. -/
def State.entered (s : State) (vs : List Word) (size : Word) : State :=
  (((s.frameWords vs).foldl State.push16 s).setReg16 .bp (s.regs.sp - 2)).setReg16 .sp
    (s.regs.sp - 2 - BitVec.ofNat 16 (2 * (vs.length + 1)) - size)

theorem length_frameWords (s : State) (vs : List Word) : (s.frameWords vs).length = vs.length + 2 := by
  simp [State.frameWords]

theorem foldl_push16_frameWords (s : State) (vs : List Word) : (s.frameWords vs).foldl State.push16 s =
    (vs.foldl State.push16 (s.push16 s.regs.bp)).push16 (s.regs.sp - 2) := by
  rw [State.frameWords, List.cons_append, List.foldl_cons, List.foldl_concat]

theorem exec_enter_of_unpushed {b : Byte} {vs : List Word} (hb : b.toNat % 32 = vs.length + 1)
    (h : ∀ p ∈ vs.zipIdx, s.Unpushed (s.regs.bp - BitVec.ofNat 16 (2 * (p.2 + 1))) p.1 (vs.length + 2)) (v : Word) :
    exec (.enter v b) s = .next (s.entered vs v) := by
  have hbp : (s.push16 s.regs.bp).regs.bp = s.regs.bp := by
    rw [push16_regs]
    rfl
  have hcopies := enterCopies_of_unpushed (s := s.push16 s.regs.bp) vs fun p hp => by
    rw [hbp]
    exact ((h p hp).push16 s.regs.bp).mono (by omega)
  have hsp : (vs.foldl State.push16 (s.push16 s.regs.bp)).regs.sp - 2 =
      s.regs.sp - 2 - BitVec.ofNat 16 (2 * (vs.length + 1)) := by
    rw [← List.foldl_cons, foldl_push16_regs, List.length_cons, sub_right_comm]
  rw [exec_enter_of_copies hb hcopies v, push16_setReg16_bp, ← foldl_push16_frameWords, State.entered, ← hsp]
  rfl

/-- The words of the frame, from the old BP down. -/
theorem entered_holdsWord {vs : List Word} (hlen : vs.length + 2 ≤ 2 ^ 15) (hram : s.AllRam (s.pushBytes (vs.length + 2)))
    {i : Nat} {x : Word} (h : (s.frameWords vs)[i]? = some x) (size : Word) :
    (s.entered vs size).HoldsWord s.segs.ss (s.regs.sp - 2 - BitVec.ofNat 16 (2 * i)) x := by
  rw [← length_frameWords s vs] at hlen hram
  rw [sub_two_sub_word]
  have hheld := holdsWord_foldl_push16 s (s.frameWords vs) hlen hram (x, i) (List.mk_mem_zipIdx_iff_getElem?.2 h)
  exact (hheld.setReg16 .bp _).setReg16 .sp _

theorem entered_regs (s : State) (vs : List Word) (size : Word) : (s.entered vs size).regs =
    { s.regs with bp := s.regs.sp - 2, sp := s.regs.sp - 2 - BitVec.ofNat 16 (2 * (vs.length + 1)) - size } := by
  simp only [State.entered, State.setReg16, State.setRegs_regs, foldl_push16_regs, Regs.set]

theorem entered_ip (s : State) (vs : List Word) (size : Word) : (s.entered vs size).ip = s.ip :=
  foldl_push16_ip (s.frameWords vs) s

theorem entered_byteAt {vs : List Word} {x : Nat} (h : x ∉ s.pushBytes (vs.length + 2)) (size : Word) :
    (s.entered vs size).byteAt x = s.byteAt x := by
  rw [← length_frameWords s vs] at h
  exact (foldl_push16_keeps s (s.frameWords vs)).mem x h

/-- The words of the `n` enclosing frames, `c j` being the word `j` places below SS:BP. -/
def enclosingWords (c : Nat → Word) (n : Nat) : List Word := (List.range n).map fun i => c (i + 1)

theorem length_enclosingWords (c : Nat → Word) (n : Nat) : (enclosingWords c n).length = n := by
  simp [enclosingWords]

theorem getElem?_enclosingWords (c : Nat → Word) {i : Nat} (h : i < n) : (enclosingWords c n)[i]? = some (c (i + 1)) := by
  simp [enclosingWords, h]

theorem mem_zipIdx_enclosingWords {c : Nat → Word} {x : Word} {i : Nat} (h : (x, i) ∈ (enclosingWords c n).zipIdx) :
    i < n ∧ x = c (i + 1) := by
  obtain ⟨hi, hx⟩ := List.mem_zipIdx' h
  rw [length_enclosingWords] at hi
  exact ⟨hi, by simpa [enclosingWords] using hx⟩

theorem frameWords_copy (s : State) (c : Nat → Word) {j : Nat} (hj : 1 ≤ j) (hjn : j ≤ n) :
    (s.frameWords (enclosingWords c n))[j]? = some (c j) := by
  obtain ⟨i, rfl⟩ := Nat.exists_eq_add_of_le' hj
  have hlt : i < (enclosingWords c n).length := by rwa [length_enclosingWords]
  rw [State.frameWords, List.cons_append, List.getElem?_cons_succ, List.getElem?_append_left hlt]
  exact getElem?_enclosingWords c hjn

theorem frameWords_address (s : State) (vs : List Word) : (s.frameWords vs)[vs.length + 1]? = some (s.regs.sp - 2) := by
  simp [State.frameWords]

/-- ENTER where the words of the enclosing frames lie outside its pushes (44_control_transfer.md R415). -/
theorem exec_enter_of_frames {b : Byte} {c : Nat → Word} (hb : b.toNat % 32 = n + 1)
    (h : ∀ j, 1 ≤ j → j < n + 1 → s.Unpushed (s.regs.bp - BitVec.ofNat 16 (2 * j)) (c j) (n + 2)) (v : Word) :
    exec (.enter v b) s = .next (s.entered (enclosingWords c n) v) := by
  refine exec_enter_of_unpushed (by rw [hb, length_enclosingWords]) (fun p hp => ?_) v
  obtain ⟨hi, hx⟩ := mem_zipIdx_enclosingWords hp
  rw [length_enclosingWords, hx]
  exact h (p.2 + 1) (by omega) (by omega)

end

/-- Settles O43: above level 0 ENTER's copies decide, and they are pushes of the words they read. -/
theorem enterLeave : Obligations.EnterLeave := by
  intro s t u v w b c
  refine ⟨fun h => exec_enter_zero v b h s, fun h => ?_, fun hlevel hcopies => ?_, fun hlevel hram hframes => ?_,
    fun h => exec_leave_of_load h, fun hram henter => ?_⟩
  · have hcopies : enterCopies 0 (s.push16 s.regs.bp) = .ok ((), s.push16 s.regs.bp) := rfl
    have hsp : (s.push16 s.regs.bp).regs.sp - 2 = s.regs.sp - 4 := by
      rw [push16_regs]
      exact sub_sub ..
    rw [exec_enter_of_copies h hcopies v, hsp]
  · exact exec_enter_of_copies (by omega) hcopies v
  · obtain ⟨n, hn⟩ : ∃ n, b.toNat % 32 = n + 1 := Nat.exists_eq_add_of_le' (by omega)
    rw [hn] at hram hframes ⊢
    have hlen := length_enclosingWords c n
    have hheld {i : Nat} {x : Word} (h : (s.frameWords (enclosingWords c n))[i]? = some x) :=
      entered_holdsWord (by omega) (by rwa [hlen]) h v
    have haddr := hheld (frameWords_address s _)
    have hregs := entered_regs s (enclosingWords c n) v
    rw [hlen] at haddr hregs
    refine ⟨_, exec_enter_of_frames hn (fun j hj hjn => ?_) v, ?_, fun j hj hjn => hheld (frameWords_copy s c hj (by omega)),
      haddr, hregs, entered_ip s _ v, fun x hx => entered_byteAt (by rwa [hlen]) v⟩
    · obtain ⟨hword, hapart⟩ := hframes j hj hjn
      exact ⟨hword, hapart⟩
    · simpa using hheld (i := 0) rfl
  · obtain ⟨hbp, hword⟩ := enterOp_frame (by omega) hram (runOp_next.1 henter)
    refine ⟨_, exec_leave_of_load (State.HoldsWord.load (hword.setReg16 .sp t.regs.bp)), ?_, rfl⟩
    show t.regs.bp + 2 = s.regs.sp
    rw [hbp]
    exact sub_add_cancel ..

end Sys2Proof.Machine

/-! ## Flags and processor control -/

namespace Sys2Proof.Machine

section
variable {s t : State}

/-! ### What the bytes decode to -/

/-- At every level an 8086 row of one byte, if no longer row begins with it, is read from that byte alone (30_encoding.md R165). -/
theorem decode_cons_of_encode {i : Instr} {b : Byte} {lvl : Level} {rest : List Byte} (henc : encode i = [b])
    (hlevel : i.level = .l8086) (hops : i.operandsWf lvl = true) (hrow : i.beginsLongerRow = false) :
    decode lvl (b :: rest) = .ok (i, rest) := by
  have hdecode := Decoder.decode_encode_l8086 rest hlevel hops fun _ => hrow
  rwa [henc] at hdecode

/-! ### WAIT and ESC -/

theorem exec_wait (s : State) : exec .wait s = .next (if s.lines.test then s else s.setWaiting true) := rfl

theorem exec_esc_of_no_coprocessor (h : s.cfg.coprocessor = false) (n l : BitVec 3) (rm : RM) :
    exec (.esc n l rm) s = runOp (escOp rm) s := by
  show execEsc n l rm s = _
  rw [execEsc, h]

theorem exec_esc_of_coprocessor (h : s.cfg.coprocessor = true) (n l : BitVec 3) (rm : RM) :
    exec (.esc n l rm) s = .refused .coprocessorPresent := by
  show execEsc n l rm s = _
  rw [execEsc, h]

/-- The memory operand of ESC is read as any word operand is (45_flag_processor_control.md R443). -/
theorem escOp_of_readRM {m : MemEA} {v : Word} (h : readRM .word (.mem m) s = .ok (v, t)) :
    escOp (.mem m) s = .ok ((), t) := by
  have hload : load .word (s.eaSeg m) (s.eaOff m) s = .ok (v, t) := Op.get_bind_ok h
  exact (Op.bind_of_ok (Op.get_run s)).trans (Op.bind_of_ok hload)

/-! ### Holds: what the boundary leaves to step 5 of R720 -/

/-- A WAIT in progress is resumed at its start, so that it is executed again (60_exceptions.md R720). -/
theorem resumeIp_of_waiting (h : s.waiting = true) : s.resumeIp = s.start := by
  simp [State.resumeIp, h]

theorem resumeIp_of_not_waiting (hwait : s.waiting = false) (hrep : s.repeating = none) : s.resumeIp = s.ip := by
  simp [State.resumeIp, hwait, hrep]

theorem execute_of_halted (h : s.halted = true) : execute s = .next (s.setBoundary (some false)) := by
  simp [execute, h]

theorem execute_of_waiting (hhalt : s.halted = false) (hwait : s.waiting = true) (htest : s.lines.test = false) :
    execute s = .next (s.setBoundary (some false)) := by
  simp [execute, hhalt, hwait, htest]

/-- TEST ends a WAIT (45_flag_processor_control.md R441). -/
theorem execute_of_test (hhalt : s.halted = false) (hwait : s.waiting = true) (htest : s.lines.test = true) :
    execute s = .next ((s.setWaiting false).setBoundary (some false)) := by
  simp [execute, hhalt, hwait, htest]

/-- A boundary at which nothing is taken (60_exceptions.md R720 step 5). A request may stand while IF = 0. -/
theorem atBoundary_of_nothing_taken (hinh : s.intInhibit = false) (hnmi : s.nmiLatched = false)
    (hreq : s.lines.intr = false ∨ s.flags.ifl = false) : atBoundary false s = execute s := by
  have hmask : (s.lines.intr && s.flags.ifl) = false := Bool.and_eq_false_iff.2 hreq
  simp [atBoundary, hinh, hnmi, hmask]

theorem State.setBoundary_self {b : Option Bool} (h : s.boundary = b) : s.setBoundary b = s := by
  rw [← h]
  rfl

/-- Without RESET, and with nothing taken at the boundary if one is due, a step is step 5 of R720 on the sampled state. -/
theorem step_of_nothing_taken (hreset : s.sample.lines.reset = false) (hnmi : s.sample.nmiLatched = false)
    (hreq : s.sample.lines.intr = false ∨ s.flags.ifl = false) (hinh : s.intInhibit = false)
    (hdue : s.boundary = none ∨ s.boundary = some false) : step s = execute (s.sample.setBoundary none) := by
  rw [step, cycle]
  simp only [hreset, Bool.false_eq_true, if_false, sample_boundary]
  obtain hdue | hdue := hdue
  · rw [hdue, State.setBoundary_self ((sample_boundary s).trans hdue)]
  · rw [hdue]
    rw [← sample_flags s] at hreq
    exact atBoundary_of_nothing_taken ((sample_intInhibit s).trans hinh) hnmi hreq

end

/-! ### The statements -/

/-- Settles O59: the step is step 5 of R720, whose first two cases are the halt and the wait. -/
theorem holdsPersist : Obligations.HoldsPersist := by
  intro s hreset hnmi hreq hinh hdue
  have hstep := step_of_nothing_taken hreset hnmi hreq hinh hdue
  have hhalted := sample_halted s
  have hwaiting := sample_waiting s
  exact ⟨fun hhalt => hstep.trans (execute_of_halted (hhalted.trans hhalt)),
    fun hhalt hwait htest => hstep.trans (execute_of_waiting (hhalted.trans hhalt) (hwaiting.trans hwait) htest),
    fun hhalt hwait htest => hstep.trans (execute_of_test (hhalted.trans hhalt) (hwaiting.trans hwait) htest),
    resumeIp_of_waiting, resumeIp_of_not_waiting⟩

/-- Settles O47: each instruction is the whole of its byte, and each meaning is one write, with STI's shadow. -/
theorem flagInstructions : Obligations.FlagInstructions :=
  fun _ _ _ => ⟨decode_cons_of_encode rfl rfl rfl rfl, decode_cons_of_encode rfl rfl rfl rfl,
    decode_cons_of_encode rfl rfl rfl rfl, decode_cons_of_encode rfl rfl rfl rfl,
    decode_cons_of_encode rfl rfl rfl rfl, decode_cons_of_encode rfl rfl rfl rfl,
    decode_cons_of_encode rfl rfl rfl rfl, rfl, rfl, rfl, rfl, rfl, rfl, rfl⟩

/-- Settles O48: WAIT by the TEST line, ESC by the coprocessor and its operand; each of the others is one write. -/
theorem processorControl : Obligations.ProcessorControl := by
  intro s t n l r m rm v
  have hwait := exec_wait s
  refine ⟨rfl, rfl, fun htest => ?_, fun htest => ?_, fun hcop => ?_, fun hcop hread => ?_,
    fun hcop => exec_esc_of_coprocessor hcop n l rm, rfl, rfl, rfl, rfl, rfl, rfl, rfl⟩
  · rwa [htest] at hwait
  · rwa [htest] at hwait
  · exact exec_esc_of_no_coprocessor hcop n l (.reg r)
  · exact (exec_esc_of_no_coprocessor hcop n l (.mem m)).trans (runOp_of_ok (escOp_of_readRM hread))

end Sys2Proof.Machine

/-! ## The instructions of level LX86, and what the others refuse

`Op.Accepts m` says that `m` refuses nothing, whatever the state. A sequence of such operations is one (`Op.Accepts.bind`), and an
update or a look at the state always is, so each operation's proof follows its definition. `exec_refused` then says for every
instruction below LX86 all that it can refuse, and no refusal of it is `lx86`. -/

namespace Sys2Proof.Machine

/-! ### Operations that refuse nothing -/

/-- The operation refuses nothing: it goes on, or stops with a fault. -/
def Op.Accepts {α : Type} (m : Op α) : Prop :=
  ∀ (s : State) (r : Refusal), m s ≠ .error (.refused r)

section
variable {α β : Type} {s : State} {r : Refusal}

/-- An operation that always goes on. -/
theorem Op.Accepts.of_ok {m : Op α} {f : State → α × State} (hm : ∀ s, m s = .ok (f s)) : m.Accepts := by
  intro s r h
  rw [hm] at h
  cases h

theorem Op.Accepts.done {a : α} : (pure a : Op α).Accepts := .of_ok (Op.pure_run a)

theorem Op.Accepts.get : (MonadState.get : Op State).Accepts := .of_ok Op.get_run

theorem Op.Accepts.update {f : State → State} : (Op.update f).Accepts := .of_ok (Op.update_run f)

theorem Op.Accepts.draw : Op.Accepts Machine.draw := .of_ok draw_run

theorem Op.bind_refused {m : Op α} {f : α → Op β} (h : (m >>= f) s = .error (.refused r)) :
    m s = .error (.refused r) ∨ ∃ a t, m s = .ok (a, t) ∧ f a t = .error (.refused r) := by
  rw [Op.bind_run] at h
  cases hm : m s with
  | ok p =>
    rw [hm] at h
    exact .inr ⟨p.1, p.2, rfl, h⟩
  | error e =>
    rw [hm] at h
    exact .inl (by simpa using h)

theorem Op.Accepts.bind {m : Op α} {f : α → Op β} (hm : m.Accepts) (hf : ∀ a, (f a).Accepts) : (m >>= f).Accepts := by
  intro s r h
  obtain h | ⟨a, t, -, h⟩ := Op.bind_refused h
  · exact hm s r h
  · exact hf a t r h

theorem Op.Accepts.ite {c : Prop} [Decidable c] {m n : Op α} (hm : m.Accepts) (hn : n.Accepts) :
    (if c then m else n).Accepts := by
  split
  · exact hm
  · exact hn

/-- A meaning refuses exactly what its operation refuses. -/
theorem runOp_refused {m : Op Unit} : runOp m s = .refused r ↔ m s = .error (.refused r) := by
  unfold runOp
  split <;> rename_i hm <;> simp [hm]

end

/-! ### Memory, ports, the stack and interrupts -/

theorem answer_accepts : answer.Accepts := by
  intro s r h
  unfold answer at h
  split at h <;> cases h

/-- An address without a value is a fault, no refusal (20_memory.md R91). -/
theorem readByte_accepts (x : Nat) : (readByte x).Accepts := by
  intro s r h
  cases hk : kindAt s.cfg.memMap x with
  | ram | rom =>
    simp only [readByte, hk] at h
    split at h <;> cases h
  | absent =>
    rw [readByte_absent hk] at h
    cases h
  | device =>
    rw [readByte_of_device hk] at h
    exact Op.Accepts.bind answer_accepts (fun _ => .bind .update fun _ => .done) s r h

theorem load_accepts (w : Width) (seg off : Word) : (load w seg off).Accepts :=
  match w with
  | .byte => .bind .get fun _ => readByte_accepts _
  | .word => .bind .get fun _ => .bind (readByte_accepts _) fun _ => .bind .get fun _ => .bind (readByte_accepts _) fun _ => .done

theorem readLoc_accepts (w : Width) (l : Loc) : (readLoc w l).Accepts :=
  match l with
  | .reg _ => .of_ok fun _ => rfl
  | .mem _ _ => load_accepts w _ _

theorem readRM_accepts (w : Width) (rm : RM) : (readRM w rm).Accepts := .bind .get fun _ => readLoc_accepts w _

theorem readPair_accepts (m : MemEA) : (readPair m).Accepts :=
  .bind .get fun _ => .bind (load_accepts .word _ _) fun _ => .bind (load_accepts .word _ _) fun _ => .done

theorem ioRead_accepts (w : Width) (port : Word) : (ioRead w port).Accepts :=
  .bind answer_accepts fun _ => .bind .update fun _ => .done

theorem pop16_accepts : pop16.Accepts :=
  .bind .get fun _ => .bind (load_accepts .word _ _) fun _ => .bind .update fun _ => .done

theorem interrupt_accepts (n : Byte) (ret : Word) : (interrupt n ret).Accepts :=
  .bind (load_accepts .word _ _) fun _ => .bind (load_accepts .word _ _) fun _ => .update

theorem interruptReturn_accepts : interruptReturn.Accepts :=
  .bind pop16_accepts fun _ => .bind pop16_accepts fun _ => .bind pop16_accepts fun _ => .update

/-! ### Operations on values and the forms that instructions share -/

theorem addOp_accepts (w : Width) (a b : BitVec w.bits) : (addOp w a b).Accepts := .bind .update fun _ => .done

theorem adcOp_accepts (w : Width) (a b : BitVec w.bits) : (adcOp w a b).Accepts :=
  .bind .get fun _ => .bind .update fun _ => .done

theorem subOp_accepts (w : Width) (a b : BitVec w.bits) : (subOp w a b).Accepts := .bind .update fun _ => .done

theorem sbbOp_accepts (w : Width) (a b : BitVec w.bits) : (sbbOp w a b).Accepts :=
  .bind .get fun _ => .bind .update fun _ => .done

theorem logicOp_accepts (w : Width) (a : BitVec w.bits) : (logicOp w a).Accepts :=
  .bind .draw fun _ => .bind .update fun _ => .done

theorem unary_accepts {op : (w : Width) → BitVec w.bits → Op (BitVec w.bits)} (hop : ∀ w a, (op w a).Accepts) (w : Width)
    (rm : RM) : (unary op w rm).Accepts :=
  .bind .get fun _ => .bind (readLoc_accepts w _) fun _ => .bind (hop w _) fun _ => .update

section
variable {op : BinOp} (hop : ∀ w a b, (op w a b).Accepts)
include hop

theorem binRmVal_accepts (w : Width) (rm : RM) (b : BitVec w.bits) : (binRmVal op w rm b).Accepts :=
  .bind .get fun _ => .bind (readLoc_accepts w _) fun _ => .bind (hop w _ b) fun _ => .update

theorem binRmReg_accepts (w : Width) (rm : RM) (r : RegNum) : (binRmReg op w rm r).Accepts :=
  .bind .get fun _ => .bind (readLoc_accepts w _) fun _ => .bind .get fun _ => .bind (hop w _ _) fun _ => .update

theorem binRegRm_accepts (w : Width) (r : RegNum) (rm : RM) : (binRegRm op w r rm).Accepts :=
  .bind (readRM_accepts w rm) fun _ => .bind .get fun _ => .bind (hop w _ _) fun _ => .update

theorem binRmImm_accepts (rm : RM) (imm : Imm) : (binRmImm op rm imm).Accepts :=
  match imm with
  | .ib b => binRmVal_accepts hop .byte rm b
  | .iw v => binRmVal_accepts hop .word rm v

theorem binAcc_accepts (imm : Imm) : (binAcc op imm).Accepts :=
  match imm with
  | .ib b => binRmVal_accepts hop .byte _ b
  | .iw v => binRmVal_accepts hop .word _ v

theorem testRmVal_accepts (w : Width) (rm : RM) (b : BitVec w.bits) : (testRmVal op w rm b).Accepts :=
  .bind (readRM_accepts w rm) fun _ => .bind (hop w _ b) fun _ => .done

theorem testRmReg_accepts (w : Width) (rm : RM) (r : RegNum) : (testRmReg op w rm r).Accepts :=
  .bind (readRM_accepts w rm) fun _ => .bind .get fun _ => .bind (hop w _ _) fun _ => .done

theorem testRegRm_accepts (w : Width) (r : RegNum) (rm : RM) : (testRegRm op w r rm).Accepts :=
  .bind (readRM_accepts w rm) fun _ => .bind .get fun _ => .bind (hop w _ _) fun _ => .done

theorem testRmImm_accepts (rm : RM) (imm : Imm) : (testRmImm op rm imm).Accepts :=
  match imm with
  | .ib b => testRmVal_accepts hop .byte rm b
  | .iw v => testRmVal_accepts hop .word rm v

theorem testAcc_accepts (imm : Imm) : (testAcc op imm).Accepts :=
  match imm with
  | .ib b => testRmVal_accepts hop .byte _ b
  | .iw v => testRmVal_accepts hop .word _ v

end

theorem shiftRm_accepts (k : ShiftKind) (w : Width) (n : ShiftBy) (rm : RM) : (shiftRm k w n rm).Accepts :=
  .bind .get fun _ => .bind (readLoc_accepts w _) fun _ => .ite (.bind .draw fun _ => .update) (.bind .done fun _ => .update)

theorem setProduct_accepts (w : Width) (p : BitVec 32) (c : Bool) : (setProduct w p c).Accepts := .bind .draw fun _ => .update

theorem mulOp_accepts (w : Width) (rm : RM) : (mulOp w rm).Accepts :=
  .bind (readRM_accepts w rm) fun _ => .bind .get fun _ => setProduct_accepts w _ _

theorem imulOp_accepts (w : Width) (rm : RM) : (imulOp w rm).Accepts :=
  .bind (readRM_accepts w rm) fun _ => .bind .get fun _ => setProduct_accepts w _ _

/-- A division that has no result takes an interrupt; it refuses nothing (60_exceptions.md R701). -/
theorem divideOp_accepts (res : (w : Width) → BitVec (2 * w.bits) → BitVec w.bits → Option (BitVec w.bits × BitVec w.bits))
    (w : Width) (rm : RM) : (divideOp res w rm).Accepts :=
  .bind (readRM_accepts w rm) fun d => .bind .get fun s => .bind .draw fun _ => .bind .update fun _ => by
    cases res w (s.dividend w) d with
    | some q => exact .update
    | none => exact .bind .get fun _ => interrupt_accepts 0 _

/-! ### The stack, control transfers, pointers and ports -/

theorem popSreg_accepts (n : SReg) : (popSreg n).Accepts := .bind pop16_accepts fun _ => .update

theorem popInto_accepts (d : Option RegNum) : (popInto d).Accepts :=
  match d with
  | none => .bind pop16_accepts fun _ => .done
  | some _ => .bind pop16_accepts fun _ => .update

theorem popAll_accepts (ds : List (Option RegNum)) : (popAll ds).Accepts := by
  induction ds with
  | nil => exact .done
  | cons d ds ih => exact .bind (popInto_accepts d) fun _ => ih

theorem returnNear_accepts (n : Word) : (returnNear n).Accepts := .bind pop16_accepts fun _ => .update

theorem returnFar_accepts (n : Word) : (returnFar n).Accepts :=
  .bind pop16_accepts fun _ => .bind pop16_accepts fun _ => .update

theorem enterCopies_accepts (n : Nat) : (enterCopies n).Accepts := by
  induction n with
  | zero => exact .done
  | succ n ih =>
    exact .bind .update fun _ => .bind .get fun _ => .bind (load_accepts .word _ _) fun _ => .bind .update fun _ => ih

theorem enterOp_accepts (size : Word) (level : Nat) : (enterOp size level).Accepts :=
  .bind .update fun _ => .bind .get fun _ =>
    .ite (.bind (enterCopies_accepts _) fun _ => .bind .update fun _ => .update) .update

theorem loadPointer_accepts (n : SReg) (r : RegNum) (m : MemEA) : (loadPointer n r m).Accepts :=
  .bind (readPair_accepts m) fun _ => .update

theorem inPort_accepts (w : Width) (port : Word) : (inPort w port).Accepts := .bind (ioRead_accepts w port) fun _ => .update

theorem escOp_accepts (rm : RM) : (escOp rm).Accepts :=
  .bind .get fun s => by
    cases s.locate rm with
    | reg r => exact .done
    | mem seg off => exact .bind (load_accepts .word seg off) fun _ => .done

/-! ### String elements and their repetition -/

theorem readSource_accepts (w : Width) : (readSource w).Accepts := .bind .get fun _ => load_accepts w _ _

theorem readDestination_accepts (w : Width) : (readDestination w).Accepts := .bind .get fun _ => load_accepts w _ _

theorem movsElement_accepts (w : Width) : (movsElement w).Accepts := .bind (readSource_accepts w) fun _ => .update

theorem cmpsElement_accepts (w : Width) : (cmpsElement w).Accepts :=
  .bind (readSource_accepts w) fun _ => .bind (readDestination_accepts w) fun _ => .bind (subOp_accepts w _ _) fun _ => .update

theorem scasElement_accepts (w : Width) : (scasElement w).Accepts :=
  .bind (readDestination_accepts w) fun _ => .bind .get fun _ => .bind (subOp_accepts w _ _) fun _ => .update

theorem lodsElement_accepts (w : Width) : (lodsElement w).Accepts := .bind (readSource_accepts w) fun _ => .update

theorem insElement_accepts (w : Width) : (insElement w).Accepts :=
  .bind .get fun _ => .bind (ioRead_accepts w _) fun _ => .update

theorem outsElement_accepts (w : Width) : (outsElement w).Accepts := .bind (readSource_accepts w) fun _ => .update

section
variable {s : State} {r : Refusal}

/-- A string instruction refuses F2h where it does not compare, and nothing else (43_string.md R348). -/
theorem stringInstr_refusal {i : Instr} {compares : Bool} {element : Op Unit} (hel : element.Accepts)
    (h : runOp (stringInstr i compares element) s = .refused r) : r = .repneOnNonComparing := by
  rw [runOp_refused] at h
  cases hrep : s.pfx.rep with
  | none =>
    rw [stringInstr_of_rep_none hrep] at h
    exact absurd h (hel s r)
  | some k =>
    by_cases htakes : k = .repne → compares = true
    · rw [stringInstr_of_rep_some hrep htakes] at h
      split at h
      · cases h
      · exact absurd h (Op.Accepts.bind hel (fun _ => .update) s r)
    · obtain ⟨rfl, hc⟩ := Classical.not_imp.1 htakes
      rw [stringInstr_refused hrep (Bool.eq_false_iff.2 hc)] at h
      cases h
      rfl

/-- ESC is refused where there is a coprocessor (45_flag_processor_control.md R443). -/
theorem execEsc_refusal (x l : BitVec 3) {rm : RM} (h : execEsc x l rm s = .refused r) : r = .coprocessorPresent := by
  unfold execEsc at h
  split at h
  · cases h
    rfl
  · exact absurd (runOp_refused.1 h) (escOp_accepts rm s r)

/-! ### Every instruction -/

/-- No meaning of an operation that refuses nothing is a refusal. -/
theorem absurd_refused {m : Op Unit} {q : Prop} (hm : m.Accepts) (h : runOp m s = .refused r) : q :=
  absurd (runOp_refused.1 h) (hm s r)

/-- All that an instruction below LX86 refuses: an F2h that it gives no meaning (43_string.md R348), and ESC where there is a
coprocessor (45_flag_processor_control.md R443). An arm that only computes a next state is no refusal by its form. -/
theorem exec_refused {i : Instr} (hlevel : i.level ≠ .lx86) (h : exec i s = .refused r) :
    r = .repneOnNonComparing ∨ r = .coprocessorPresent := by
  cases i with
  | addRmReg => exact absurd_refused (binRmReg_accepts addOp_accepts _ _ _) h
  | addRegRm => exact absurd_refused (binRegRm_accepts addOp_accepts _ _ _) h
  | addAcc => exact absurd_refused (binAcc_accepts addOp_accepts _) h
  | addRmImm => exact absurd_refused (binRmImm_accepts addOp_accepts _ _) h
  | addRmImm8 => exact absurd_refused (binRmVal_accepts addOp_accepts _ _ _) h
  | orRmReg | andRmReg | xorRmReg => exact absurd_refused (binRmReg_accepts (fun w _ _ => logicOp_accepts w _) _ _ _) h
  | orRegRm | andRegRm | xorRegRm => exact absurd_refused (binRegRm_accepts (fun w _ _ => logicOp_accepts w _) _ _ _) h
  | orAcc | andAcc | xorAcc => exact absurd_refused (binAcc_accepts (fun w _ _ => logicOp_accepts w _) _) h
  | orRmImm | andRmImm | xorRmImm => exact absurd_refused (binRmImm_accepts (fun w _ _ => logicOp_accepts w _) _ _) h
  | andRmImm8 => exact absurd_refused (binRmVal_accepts (fun w _ _ => logicOp_accepts w _) _ _ _) h
  | adcRmReg => exact absurd_refused (binRmReg_accepts adcOp_accepts _ _ _) h
  | adcRegRm => exact absurd_refused (binRegRm_accepts adcOp_accepts _ _ _) h
  | adcAcc => exact absurd_refused (binAcc_accepts adcOp_accepts _) h
  | adcRmImm => exact absurd_refused (binRmImm_accepts adcOp_accepts _ _) h
  | adcRmImm8 => exact absurd_refused (binRmVal_accepts adcOp_accepts _ _ _) h
  | sbbRmReg => exact absurd_refused (binRmReg_accepts sbbOp_accepts _ _ _) h
  | sbbRegRm => exact absurd_refused (binRegRm_accepts sbbOp_accepts _ _ _) h
  | sbbAcc => exact absurd_refused (binAcc_accepts sbbOp_accepts _) h
  | sbbRmImm => exact absurd_refused (binRmImm_accepts sbbOp_accepts _ _) h
  | sbbRmImm8 => exact absurd_refused (binRmVal_accepts sbbOp_accepts _ _ _) h
  | subRmReg => exact absurd_refused (binRmReg_accepts subOp_accepts _ _ _) h
  | subRegRm => exact absurd_refused (binRegRm_accepts subOp_accepts _ _ _) h
  | subAcc => exact absurd_refused (binAcc_accepts subOp_accepts _) h
  | subRmImm => exact absurd_refused (binRmImm_accepts subOp_accepts _ _) h
  | subRmImm8 => exact absurd_refused (binRmVal_accepts subOp_accepts _ _ _) h
  | cmpRmReg => exact absurd_refused (testRmReg_accepts subOp_accepts _ _ _) h
  | cmpRegRm => exact absurd_refused (testRegRm_accepts subOp_accepts _ _ _) h
  | cmpAcc => exact absurd_refused (testAcc_accepts subOp_accepts _) h
  | cmpRmImm => exact absurd_refused (testRmImm_accepts subOp_accepts _ _) h
  | cmpRmImm8 => exact absurd_refused (testRmVal_accepts subOp_accepts _ _ _) h
  | testRmReg => exact absurd_refused (testRmReg_accepts (fun w _ _ => logicOp_accepts w _) _ _ _) h
  | testAcc => exact absurd_refused (testAcc_accepts (fun w _ _ => logicOp_accepts w _) _) h
  | testRmImm => exact absurd_refused (testRmImm_accepts (fun w _ _ => logicOp_accepts w _) _ _) h
  | incRm | decRm => exact absurd_refused (unary_accepts (fun _ _ => .bind .update fun _ => .done) _ _) h
  | notRm => exact absurd_refused (unary_accepts (fun _ _ => .done) _ _) h
  | neg => exact absurd_refused (unary_accepts (fun w a => subOp_accepts w 0 a) _ _) h
  | mul => exact absurd_refused (mulOp_accepts _ _) h
  | imul => exact absurd_refused (imulOp_accepts _ _) h
  | div | idiv => exact absurd_refused (divideOp_accepts _ _ _) h
  | rol | ror | rcl | rcr | shl | shr | sar => exact absurd_refused (shiftRm_accepts _ _ _ _) h
  | popEs | popSs | popDs => exact absurd_refused (popSreg_accepts _) h
  | popReg | popf => exact absurd_refused (.bind pop16_accepts fun _ => .update) h
  | popRm => exact absurd_refused (.bind .get fun _ => .bind pop16_accepts fun _ => .update) h
  | popa => exact absurd_refused (popAll_accepts _) h
  | pushRm rm =>
    cases rm with
    | reg n => cases h
    | mem m => exact absurd_refused (.bind (readRM_accepts .word (.mem m)) fun _ => .update) h
  | movRegRm | movSregRm | jmpRm | callRm => exact absurd_refused (.bind (readRM_accepts _ _) fun _ => .update) h
  | movRmImm rm imm | movRegImm n imm => cases imm <;> cases h
  | movAccMem => exact absurd_refused (.bind (load_accepts _ _ _) fun _ => .update) h
  | xlat => exact absurd_refused (.bind (load_accepts .byte _ _) fun _ => .update) h
  | xchgRmReg => exact absurd_refused (.bind .get fun _ => .bind (readLoc_accepts _ _) fun _ => .update) h
  | les | lds => exact absurd_refused (loadPointer_accepts _ _ _) h
  | inImm | inDx => exact absurd_refused (inPort_accepts _ _) h
  | jmpFarMem | callFarMem => exact absurd_refused (.bind (readPair_accepts _) fun _ => .update) h
  | retImm | ret => exact absurd_refused (returnNear_accepts _) h
  | retfImm | retf => exact absurd_refused (returnFar_accepts _) h
  | enter => exact absurd_refused (enterOp_accepts _ _) h
  | leave => exact absurd_refused (.bind .update fun _ => .bind pop16_accepts fun _ => .update) h
  | int3 | intN => exact absurd_refused (interrupt_accepts _ _) h
  | into => exact absurd_refused (.ite (interrupt_accepts _ _) .done) h
  | iret => exact absurd_refused interruptReturn_accepts h
  | bound => exact absurd_refused (.bind (readPair_accepts _) fun _ => .ite (interrupt_accepts _ _) .done) h
  | movs w => exact .inl (stringInstr_refusal (movsElement_accepts w) h)
  | cmps w => exact .inl (stringInstr_refusal (cmpsElement_accepts w) h)
  | scas w => exact .inl (stringInstr_refusal (scasElement_accepts w) h)
  | lods w => exact .inl (stringInstr_refusal (lodsElement_accepts w) h)
  | stos => exact .inl (stringInstr_refusal .update h)
  | ins w => exact .inl (stringInstr_refusal (insElement_accepts w) h)
  | outs w => exact .inl (stringInstr_refusal (outsElement_accepts w) h)
  | esc x l => exact .inr (execEsc_refusal x l h)
  | pushEs | pushCs | pushSs | pushDs | pushReg | pushImm | pushImm8 | pushf | pusha | movRmReg | movRmSreg | movMemAcc | lea
  | nop | xchgAx | cbw | cwd | sahf | lahf | setalc | outImm | outDx | cmc | clc | stc | cld | std | cli | sti | hlt | wait
  | overrideEs | overrideCs | overrideSs | overrideDs | lock | repne | rep | jo | jno | jb | jnb | jz | jnz | jbe | jnbe
  | js | jns | jp | jnp | jl | jnl | jle | jnle | jcxz | loopne | loope | loop | jmpNear | jmpShort | jmpFar | callNear
  | callFar | incReg | decReg | aaa | aas | daa | das | aam | aad => cases h
  | _ => exact absurd rfl hlevel

end

/-! ### Level LX86 -/

/-- The names are those of the rows of level LX86, row by row. -/
theorem refusalName_isSome (i : Instr) : (refusalName i).isSome = decide (i.level = .lx86) := by
  cases i <;> rfl

/-- Each named arm of `exec` is the refusal with that name, row by row; the instructions that have no name contradict `h`. -/
theorem exec_of_refusalName {i : Instr} {name : String} (h : refusalName i = some name) (s : State) :
    exec i s = .refused (.lx86 name) := by
  cases i <;> cases h <;> rfl

/-! ### The statement -/

/-- Settles O49: the names and their refusals row by row; the other instructions refuse only what `exec_refused` lists. -/
theorem laterLevelsRefused : Obligations.LaterLevelsRefused := by
  intro i
  refine ⟨?_, fun name => exec_of_refusalName, fun hlevel s name h => ?_⟩
  · rw [refusalName_isSome, decide_eq_true_iff]
  · obtain hr | hr := exec_refused hlevel h <;> cases hr

end Sys2Proof.Machine

/-! ## The end of a run -/

namespace Sys2Proof.Machine

section
variable {s : State}

/-! ### A step of an ended machine -/

/-- With no RESET and no NMI among the samples to come, none is on the next one, and the machine is ended after it. -/
theorem State.Ended.sample (h : s.Ended) : s.sample.Ended ∧ s.sample.lines.reset = false := by
  obtain ⟨hhalt, hif, hnmi, hinh, hdue, hlines⟩ := h
  unfold State.sample
  split
  · exact ⟨⟨hhalt, hif, hnmi, hinh, hdue, hlines⟩, rfl⟩
  · rename_i l rest hinputs
    obtain ⟨hreset, hl⟩ := hlines l (hinputs ▸ List.mem_cons_self)
    exact ⟨⟨hhalt, hif, Bool.or_eq_false_iff.2 ⟨hnmi, hl⟩, hinh, hdue,
      fun k hk => hlines k (hinputs ▸ List.mem_cons_of_mem l hk)⟩, hreset⟩

/-- The halt goes on (45_flag_processor_control.md R440): a request is masked, and nothing else can come. -/
theorem State.Ended.step_eq (h : s.Ended) : step s = .next (s.sample.setBoundary (some false)) := by
  obtain ⟨hsample, hreset⟩ := h.sample
  obtain ⟨hhalt, -, hnmi, -, -, -⟩ := hsample
  obtain ⟨-, hif, -, hinh, hdue, -⟩ := h
  exact (step_of_nothing_taken hreset hnmi (.inr hif) hinh hdue).trans (execute_of_halted hhalt)

theorem State.Ended.setBoundary (h : s.Ended) : (s.setBoundary (some false)).Ended := by
  obtain ⟨hhalt, hif, hnmi, hinh, -, hlines⟩ := h
  exact ⟨hhalt, hif, hnmi, hinh, .inr rfl, hlines⟩

/-- What a program can see of the machine: registers, segment registers, IP, FLAGS and memory (60_exceptions.md R745). -/
def State.visible (s : State) : Regs × Segs × Word × Flags × Memory := (s.regs, s.segs, s.ip, s.flags, s.mem)

theorem sample_visible (s : State) : s.sample.visible = s.visible := by simp [State.visible]

end

/-- An ended machine runs on for any number of steps, each of which is again one of an ended machine. -/
theorem run_of_ended (n : Nat) : ∀ {s : State}, s.Ended →
    ∃ t, Host.Core.run core n s = .next t ∧ t.Ended ∧ t.visible = s.visible := by
  induction n with
  | zero => exact fun {s} h => ⟨s, rfl, h, rfl⟩
  | succ n ih =>
    intro s h
    obtain ⟨t, hrun, hended, hvisible⟩ := ih h.sample.1.setBoundary
    exact ⟨t, (run_succ_of_step h.step_eq n).trans hrun, hended, hvisible.trans (sample_visible s)⟩

/-- Settles O60, by induction on the number of steps. -/
theorem endedRunsStay : Obligations.EndedRunsStay := by
  intro s n h
  obtain ⟨t, hrun, hended, hvisible⟩ := run_of_ended n h
  simp only [State.visible, Prod.mk.injEq] at hvisible
  exact ⟨t, hrun, hended, hvisible⟩

end Sys2Proof.Machine

/-! ## The interrupt sequence, and the instructions that run it -/

namespace Sys2Proof.Machine

section
variable {s t : State} {n : Byte} {ret ip cs : Word}

/-- A meaning is determined by what its operation answers. -/
theorem runOp_congr {m o : Op Unit} (h : m s = o t) : runOp m s = runOp o t := by rw [runOp, runOp, h]

/-! ### What the sequence does -/

/-- The state in which the handler at `cs:ip` begins: FLAGS, CS and `ret` pushed, and IF and TF cleared after FLAGS
(60_exceptions.md R710). -/
def State.inHandler (s : State) (ret ip cs : Word) : State :=
  ((((((s.push16 s.flagsWord).setFlags { s.flags with ifl := false, tf := false }).push16 s.segs.cs).push16 ret).jumpFar
    cs ip).setHalted false).setWaiting false

/-- The sequence goes on where the vector can be read, and a vector of RAM or ROM is read without a trace. -/
theorem interrupt_of_holdsWord (hip : s.HoldsWord 0 (zext16 n * 4) ip) (hcs : s.HoldsWord 0 (zext16 n * 4 + 2) cs)
    (ret : Word) : interrupt n ret s = .ok ((), s.inHandler ret ip cs) := by
  refine (Op.bind_of_ok hip.load).trans ((Op.bind_of_ok hcs.load).trans ?_)
  simp [State.inHandler]

/-- The registers and the hidden state that every sequence leaves, wherever its vector was read from. -/
structure State.Interrupted (s t : State) : Prop where
  regs : t.regs = { s.regs with sp := s.regs.sp - 6 }
  flags : t.flags = { s.flags with ifl := false, tf := false }
  halted : t.halted = false
  waiting : t.waiting = false
  intInhibit : t.intInhibit = s.intInhibit
  nmiLatched : t.nmiLatched = s.nmiLatched
  pfx : t.pfx = s.pfx
  repeating : t.repeating = s.repeating
  boundary : t.boundary = s.boundary

theorem inHandler_regs (s : State) (ret ip cs : Word) :
    (s.inHandler ret ip cs).regs = { s.regs with sp := s.regs.sp - 6 } := by
  have hsp : s.regs.sp - 4 - 2 = s.regs.sp - 6 := sub_sub ..
  have hpush : (((s.push16 s.flagsWord).push16 s.segs.cs).push16 ret).regs = s.regs.set .sp (s.regs.sp - 6) := by
    rw [push16_regs, push16_push16_regs, ← hsp]
    rfl
  rw [State.inHandler, push16_setFlags, push16_setFlags, State.setWaiting_regs, State.setHalted_regs, State.jumpFar_regs,
    State.setFlags_regs, hpush]
  rfl

theorem inHandler_interrupted (s : State) (ret ip cs : Word) : s.Interrupted (s.inHandler ret ip cs) := by
  refine ⟨inHandler_regs s ret ip cs, ?_, rfl, rfl, ?_, ?_, ?_, ?_, ?_⟩ <;>
    simp [State.inHandler, State.jumpFar, State.jump, State.setSreg]

theorem interrupt_interrupted (h : interrupt n ret s = .ok ((), t)) : s.Interrupted t := by
  obtain ⟨ip, cs, r, u, hip, hcs, rfl⟩ := interrupt_ok h
  obtain ⟨a, l, d, rfl⟩ := load_ok hip
  obtain ⟨a', l', d', rfl⟩ := load_ok hcs
  exact { inHandler_interrupted (((s.setAnswers a').setEvents l').setDraws d') ret ip cs with }

theorem inHandler_segs (s : State) (ret ip cs : Word) : (s.inHandler ret ip cs).segs = { s.segs with cs := cs } := by
  simp [State.inHandler, State.jumpFar, State.jump, State.setSreg, Segs.set]

/-- The three words that a sequence saves, where the stack is RAM. -/
theorem interrupt_saves (hram : s.AllRam (s.pushBytes 3)) (h : interrupt n ret s = .ok ((), t)) :
    t.HoldsWord s.segs.ss (s.regs.sp - 2) s.flagsWord ∧ t.HoldsWord s.segs.ss (s.regs.sp - 4) s.segs.cs ∧
      t.HoldsWord s.segs.ss (s.regs.sp - 6) ret := by
  have hsaved := interrupt_saved hram h
  obtain ⟨c, hsegs⟩ := hsaved.segs
  have hss : t.segs.ss = s.segs.ss := by rw [hsegs]; rfl
  rw [← hss]
  exact ⟨hsaved.flags.word, hsaved.cs.word, hsaved.ip.word⟩

/-! ### INT n, INT 3, INTO and BOUND -/

theorem exec_intN (n : Byte) (s : State) : exec (.intN n) s = runOp (interrupt n s.ip) s := rfl

theorem exec_int3 (s : State) : exec .int3 s = runOp (interrupt 3 s.ip) s := rfl

theorem exec_into (s : State) : exec .into s = if s.flags.ofl then runOp (interrupt 4 s.ip) s else .next s := by
  show runOp (if s.flags.ofl then interrupt 4 s.ip else pure ()) s = _
  split <;> rfl

/-- BOUND reads its pair before it looks at its register (44_control_transfer.md R417). -/
theorem exec_bound_of_readPair {r : RegNum} {m : MemEA} {lo hi : Word} (h : readPair m s = .ok ((lo, hi), t)) :
    exec (.bound r m) s = if (s.reg16 r).toInt < lo.toInt ∨ hi.toInt < (s.reg16 r).toInt then
      runOp (interrupt 5 s.start) t else .next t := by
  have hrun : exec (.bound r m) s = runOp (if (s.reg16 r).toInt < lo.toInt ∨ hi.toInt < (s.reg16 r).toInt then
      interrupt 5 s.start else pure ()) t := by
    exact runOp_congr (Op.bind_of_ok h)
  rw [hrun]
  split <;> rfl

/-! ### DIV and IDIV: type 0 -/

theorem divResult_eq_none {w : Width} {a : BitVec (2 * w.bits)} {d : BitVec w.bits}
    (h : d = 0 ∨ 2 ^ w.bits ≤ a.toNat / d.toNat) : divResult w a d = none := by
  unfold divResult
  split
  · rfl
  · rename_i hd
    exact if_pos (h.resolve_left fun h0 => hd (h0 ▸ rfl))

theorem idivResult_eq_none {w : Width} {a : BitVec (2 * w.bits)} {d : BitVec w.bits}
    (h : d = 0 ∨ a.toInt.tdiv d.toInt < -(2 ^ (w.bits - 1) - 1) ∨ 2 ^ (w.bits - 1) - 1 < a.toInt.tdiv d.toInt) :
    idivResult w a d = none := by
  unfold idivResult
  split
  · rfl
  · rename_i hd
    exact if_pos (h.resolve_left fun h0 => hd (h0 ▸ BitVec.toInt_zero)).symm

theorem divFaultIp_eq (s : State) : s.divFaultIp = if s.cfg.divFaultIp = .next then s.ip else s.start := by
  unfold State.divFaultIp
  cases s.cfg.divFaultIp <;> rfl

/-- A division without a result: the status flags are drawn, and the sequence saves them (60_exceptions.md R701; entry 18). -/
theorem divideOp_of_none {res : (w : Width) → BitVec (2 * w.bits) → BitVec w.bits → Option (BitVec w.bits × BitVec w.bits)}
    {w : Width} {rm : RM} {d : BitVec w.bits} (h : readRM w rm s = .ok (d, t)) (hres : res w (s.dividend w) d = none) :
    divideOp res w rm s = interrupt 0 s.divFaultIp (t.drew.setFlags (s.flags.statusDrawn t.drawn)) := by
  rw [← readRM_flags h]
  refine (Op.bind_of_ok h).trans ((Op.bind_of_ok (Op.get_run t)).trans ((Op.bind_of_ok (draw_run t)).trans
    ((Op.bind_of_ok (Op.update_run _ _)).trans ?_)))
  rw [dividend_of_regs_eq (readRM_regs h), hres]
  obtain ⟨a, l, c, rfl⟩ := readRM_ok h
  rfl

/-- DIV by zero, or with a quotient that does not fit (41_arithmetic.md R272). -/
theorem exec_div_error {w : Width} {rm : RM} {d : BitVec w.bits} (h : readRM w rm s = .ok (d, t))
    (herr : d = 0 ∨ 2 ^ w.bits ≤ (s.dividend w).toNat / d.toNat) :
    exec (.div w rm) s = runOp (interrupt 0 s.divFaultIp) (t.drew.setFlags (s.flags.statusDrawn t.drawn)) :=
  runOp_congr (divideOp_of_none h (divResult_eq_none herr))

/-- IDIV by zero, or with a quotient that does not fit, the least value of the width among them (41_arithmetic.md R273). -/
theorem exec_idiv_error {w : Width} {rm : RM} {d : BitVec w.bits} (h : readRM w rm s = .ok (d, t))
    (herr : d = 0 ∨ (s.dividend w).toInt.tdiv d.toInt < -(2 ^ (w.bits - 1) - 1) ∨
      2 ^ (w.bits - 1) - 1 < (s.dividend w).toInt.tdiv d.toInt) :
    exec (.idiv w rm) s = runOp (interrupt 0 s.divFaultIp) (t.drew.setFlags (s.flags.statusDrawn t.drawn)) :=
  runOp_congr (divideOp_of_none h (idivResult_eq_none herr))

end

/-! ### The statements -/

/-- Settles O44: each is the sequence of its type, BOUND after the read of its pair. -/
theorem softwareInterrupts : Obligations.SoftwareInterrupts := by
  intro s t b r m lo hi
  refine ⟨exec_intN b s, exec_int3 s, fun hof => (exec_into s).trans (if_pos hof),
    fun hof => (exec_into s).trans (if_neg (by simp [hof])), fun hread => ⟨fun ⟨hlo, hhi⟩ => ⟨?_, ?_⟩, fun hout => ?_⟩⟩
  · exact (exec_bound_of_readPair hread).trans (if_neg (by omega))
  · obtain ⟨a, l, d, rfl⟩ := readPair_ok hread
    rfl
  · exact (exec_bound_of_readPair hread).trans (if_pos hout)

/-- Settles O33: in both widths neither division has a result, and then the sequence runs. -/
theorem divideErrorTakesTypeZero : Obligations.DivideErrorTakesTypeZero := by
  refine ⟨fun s t rm i err hdiv herr => ?_, rfl, rfl, rfl⟩
  rw [← divFaultIp_eq]
  obtain ⟨d, hread, ⟨rfl, rfl⟩ | ⟨rfl, rfl⟩⟩ | ⟨d, hread, ⟨rfl, rfl⟩ | ⟨rfl, rfl⟩⟩ := hdiv
  · exact exec_div_error hread herr
  · exact exec_idiv_error hread herr
  · exact exec_div_error hread herr
  · exact exec_idiv_error hread herr

/-- Settles O45: the handler's state is written out, its stack and its frame being those of every sequence. -/
theorem interruptSequence : Obligations.InterruptSequence := by
  intro s n ret ip cs hip hcs
  have hrun : interrupt n ret s = .ok ((), s.inHandler ret ip cs) := interrupt_of_holdsWord hip hcs ret
  have hnext := runOp_of_ok hrun
  have hafter := inHandler_interrupted s ret ip cs
  refine ⟨_, hnext, fun hret => ?_, rfl, inHandler_segs s ret ip cs, hafter.regs, hafter.flags, hafter.halted,
    hafter.waiting, fun hram => interrupt_saves hram hrun,
    (interrupt_keeps (interruptEffects_interrupts s n) hrun).mem⟩
  subst hret
  refine ⟨hnext, ?_, ?_⟩
  · rintro rfl
    exact hnext
  · rintro rfl hof
    exact (exec_into s).trans ((if_pos hof).trans hnext)

end Sys2Proof.Machine

/-! ## The instruction boundary: the order of its causes -/

namespace Sys2Proof.Machine

section
variable {s t u : State} {n : Byte} {tf : Bool}

/-! ### Accepting an interrupt -/

/-- An accepted interrupt is its sequence, after which no instruction is in progress (60_exceptions.md R720). -/
theorem acceptInterrupt_of_interrupt (h : interrupt n s.resumeIp s = .ok ((), t)) (after : Option Bool) :
    acceptInterrupt n after s = .ok ((), ((t.setPfx .none).setRepeating none).setBoundary after) :=
  (Op.bind_of_ok (Op.get_run s)).trans (Op.bind_of_ok h)

theorem acceptNmi_of_no_trap (h : interrupt 2 s.resumeIp s = .ok ((), t)) :
    acceptNmi false s = .ok ((), ((t.setPfx .none).setRepeating none).setBoundary none) :=
  Op.bind_of_ok (acceptInterrupt_of_interrupt h none)

/-- The sequence keeps it so that no instruction is in progress. -/
theorem State.Interrupted.leave (h : s.Interrupted t) (hpfx : s.pfx = .none) (hrep : s.repeating = none)
    (hdue : s.boundary = none) : ((t.setPfx .none).setRepeating none).setBoundary none = t := by
  rw [← hpfx, ← h.pfx, ← hrep, ← h.repeating, ← hdue, ← h.boundary]
  rfl

/-- With the TF of before the trap's sequence follows that of type 2, from the NMI handler's first instruction (R720 step 2). -/
theorem acceptNmi_of_trap (h : interrupt 2 s.resumeIp s = .ok ((), t))
    (htrap : interrupt 1 t.ip (((t.setPfx .none).setRepeating none).setBoundary none) = .ok ((), u)) :
    acceptNmi true s = .ok ((), u) := by
  have hresume : (((t.setPfx .none).setRepeating none).setBoundary none).resumeIp = t.ip :=
    resumeIp_of_not_waiting (interrupt_interrupted h).waiting rfl
  refine (Op.bind_of_ok (acceptInterrupt_of_interrupt h none)).trans ?_
  rw [← hresume] at htrap
  refine (acceptInterrupt_of_interrupt htrap none).trans ?_
  rw [(interrupt_interrupted htrap).leave rfl rfl rfl]

/-! ### The causes, in their order -/

theorem step_of_due (hdue : s.boundary = some tf) (hreset : s.sample.lines.reset = false) :
    step s = atBoundary tf (s.sample.setBoundary none) := by
  simp [step, cycle, hreset, hdue]

theorem atBoundary_of_inhibited (tf : Bool) (hinh : s.intInhibit = true) :
    atBoundary tf s = execute (s.setIntInhibit false) := by
  simp [atBoundary, hinh]

theorem atBoundary_of_nmi (tf : Bool) (hinh : s.intInhibit = false) (hnmi : s.nmiLatched = true) :
    atBoundary tf s = runOp (acceptNmi tf) (s.setNmiLatched false) := by
  simp [atBoundary, hinh, hnmi]

theorem atBoundary_of_request (tf : Bool) (hinh : s.intInhibit = false) (hnmi : s.nmiLatched = false)
    (hreq : s.lines.intr = true) (hif : s.flags.ifl = true) :
    atBoundary tf s = runOp (acceptInterrupt s.lines.intrType (some tf)) s := by
  simp [atBoundary, hinh, hnmi, hreq, hif]

theorem atBoundary_of_trap (hinh : s.intInhibit = false) (hnmi : s.nmiLatched = false)
    (hreq : s.lines.intr = false ∨ s.flags.ifl = false) : atBoundary true s = runOp (acceptInterrupt 1 none) s := by
  have hmask : (s.lines.intr && s.flags.ifl) = false := Bool.and_eq_false_iff.2 hreq
  simp [atBoundary, hinh, hnmi, hmask]

end

/-! ### The statement -/

/-- Settles O58, cause by cause. -/
theorem boundaryOrder : Obligations.BoundaryOrder := by
  intro s u tf hdue hreset hu
  have hstep : step s = atBoundary tf u := hu ▸ step_of_due hdue hreset
  rw [hstep]
  refine ⟨atBoundary_of_inhibited tf, fun hinh hnmi t hint => ⟨?_, ?_⟩, fun hinh hnmi hreq hif t hint => ?_,
    fun hinh hnmi hreq => ⟨?_, ?_⟩⟩
  · rintro rfl
    exact (atBoundary_of_nmi false hinh hnmi).trans (runOp_of_ok (acceptNmi_of_no_trap hint))
  · rintro v rfl htrap
    exact (atBoundary_of_nmi true hinh hnmi).trans (runOp_of_ok (acceptNmi_of_trap hint htrap))
  · have hafter := interrupt_interrupted hint
    exact ⟨(atBoundary_of_request tf hinh hnmi hreq hif).trans (runOp_of_ok (acceptInterrupt_of_interrupt hint (some tf))),
      congrArg Flags.ifl hafter.flags, congrArg Flags.tf hafter.flags, hafter.intInhibit.trans hinh,
      hafter.nmiLatched.trans hnmi⟩
  · rintro rfl t hint
    exact (atBoundary_of_trap hinh hnmi hreq).trans (runOp_of_ok (acceptInterrupt_of_interrupt hint none))
  · rintro rfl
    exact atBoundary_of_nothing_taken hinh hnmi hreq

end Sys2Proof.Machine

/-! ## The length of an encoding -/

namespace Sys2Proof

section
open Laws.EncodeLength

/-- Below level LX86, by the form of the operands: no operand, one after the opcode byte, an immediate, or both. -/
theorem encodeLength_of_level_ne_lx86 {i : Instr} (hlevel : i.level ≠ .lx86) : Statement i := by
  cases i with
  | addRmReg | orRmReg | adcRmReg | sbbRmReg | andRmReg | subRmReg | xorRmReg | cmpRmReg | testRmReg | xchgRmReg | movRmReg
  | addRegRm | orRegRm | adcRegRm | sbbRegRm | andRegRm | subRegRm | xorRegRm | cmpRegRm | movRegRm | movRmSreg | movSregRm
  | lea | les | lds | bound | popRm | pushRm | callRm | jmpRm | callFarMem | jmpFarMem | rol | ror | rcl | rcr | shl | shr | sar
  | notRm | neg | mul | imul | div | idiv | incRm | decRm | esc => exact operand 1 _ _ rfl rfl
  | addRmImm | orRmImm | adcRmImm | sbbRmImm | andRmImm | subRmImm | xorRmImm | cmpRmImm | movRmImm | testRmImm =>
    exact operandImmediate _ _ _ [_] rfl rfl
  | addRmImm8 | adcRmImm8 | sbbRmImm8 | andRmImm8 | subRmImm8 | cmpRmImm8 => exact operandByte _ _ _ [_] rfl rfl
  | addAcc | orAcc | adcAcc | sbbAcc | andAcc | subAcc | xorAcc | cmpAcc | testAcc | movRegImm => exact immediate 1 _ rfl rfl
  | pushEs | popEs | overrideEs | pushCs | overrideCs | pushSs | popSs | overrideSs | pushDs | popDs | overrideDs | daa | das
  | aaa | aas | nop | cbw | cwd | wait | pushf | popf | sahf | lahf | ret | retf | int3 | into | iret | setalc | xlat | lock
  | repne | rep | hlt | cmc | clc | stc | cli | sti | cld | std | pusha | popa | leave | aam | aad | incReg | decReg | pushReg
  | popReg | xchgAx | movs | cmps | stos | lods | scas | ins | outs | inDx | outDx | inImm | outImm | jo | jno | jb | jnb | jz
  | jnz | jbe | jnbe | js | jns | jp | jnp | jl | jnl | jle | jnle | intN | loopne | loope | loop | jcxz | jmpShort | pushImm8
  | pushImm | retImm | retfImm | callNear | jmpNear | callFar | jmpFar | movAccMem | movMemAcc | enter => exact fixed _ rfl rfl
  | _ => exact absurd rfl hlevel

theorem level_ne_lx86_of_wf {lvl : Level} {i : Instr} (hlvl : lvl ≠ .lx86) (h : i.wf lvl = true) : i.level ≠ .lx86 := by
  intro hi
  obtain ⟨hincludes, -⟩ := Bool.and_eq_true_iff.1 h
  exact hlvl ((Level.includes_lx86 lvl).1 (hi ▸ hincludes))

end

end Sys2Proof

/-! ## The step as the execution of the instruction at CS:IP -/

namespace Sys2Proof.Machine

section
variable {s t u : State} {i : Instr} {b : Byte} {bs : List Byte}

/-! ### Fetching bytes that memory holds -/

/-- The bytes are held by RAM or ROM from CS:IP on, IP wrapping inside the segment (30_encoding.md R121; 10_state.md R38). -/
def State.HoldsCode (s : State) (bs : List Byte) : Prop :=
  ∀ (k : Nat) (b : Byte), bs[k]? = some b →
    (kindAt s.cfg.memMap (phys s.segs.cs (s.ip + BitVec.ofNat 16 k)) = .ram ∨
      kindAt s.cfg.memMap (phys s.segs.cs (s.ip + BitVec.ofNat 16 k)) = .rom) ∧
    s.byteAt (phys s.segs.cs (s.ip + BitVec.ofNat 16 k)) = some b

/-- Only the parameters, CS, IP and memory count. -/
theorem State.HoldsCode.of_same (h : s.HoldsCode bs) (hcfg : t.cfg = s.cfg) (hsegs : t.segs = s.segs) (hip : t.ip = s.ip)
    (hmem : t.mem = s.mem) : t.HoldsCode bs := by
  intro k b hk
  rw [hcfg, hsegs, hip, State.byteAt, hmem]
  exact h k b hk

theorem add_one_add_word (x : Word) (n : Nat) : x + 1 + BitVec.ofNat 16 n = x + BitVec.ofNat 16 (n + 1) := by
  rw [BitVec.ofNat_add, BitVec.add_assoc, BitVec.add_comm 1]
  rfl

theorem State.HoldsCode.tail (h : s.HoldsCode (b :: bs)) : (s.setIp (s.ip + 1)).HoldsCode bs := by
  intro k c hk
  have hheld := h (k + 1) c hk
  rw [← add_one_add_word] at hheld
  exact hheld

/-- With nothing fetched ahead, a fetch answers the byte that memory holds (20_memory.md R104). -/
theorem fetchByte_of_holdsCode (hstale : s.stale = []) (h : s.HoldsCode (b :: bs)) :
    fetchByte s = .ok (b, s.setIp (s.ip + 1)) := by
  obtain ⟨hk, hb⟩ := h 0 b rfl
  have haddr : phys s.segs.cs (s.ip + BitVec.ofNat 16 0) = s.codeAddr := congrArg (phys s.segs.cs) (BitVec.add_zero _)
  rw [haddr] at hk hb
  refine fetchByte_of_pick_some hk ?_
  rw [hstale, hb]
  rfl

theorem stateAfter_cons (s : State) (p : Byte × State) (w : List (Byte × State)) :
    stateAfter s (p :: w) = stateAfter p.2 w := by
  cases w with
  | nil => rfl
  | cons q w => rw [stateAfter, stateAfter, List.getLast?_cons_cons, List.getLast?_cons]

/-- A window begins with the bytes held, and the state after the last of them has IP behind it. -/
theorem codeWindow_of_holdsCode (bs : List Byte) (n : Nat) : ∀ {s : State}, s.stale = [] → s.HoldsCode bs →
    ∃ w, codeWindow (bs.length + n) s = w ++ codeWindow n (s.setIp (s.ip + BitVec.ofNat 16 bs.length)) ∧
      w.map Prod.fst = bs ∧ stateAfter s w = s.setIp (s.ip + BitVec.ofNat 16 bs.length) := by
  induction bs with
  | nil =>
    intro s _ _
    have hself : s.setIp (s.ip + BitVec.ofNat 16 0) = s := congrArg s.setIp (BitVec.add_zero _)
    refine ⟨[], ?_, rfl, hself.symm⟩
    rw [List.length_nil, hself, Nat.zero_add, List.nil_append]
  | cons b bs ih =>
    intro s hstale h
    obtain ⟨w, hw, hbytes, hafter⟩ := ih (s := s.setIp (s.ip + 1)) hstale h.tail
    have hip : (s.setIp (s.ip + 1)).setIp ((s.setIp (s.ip + 1)).ip + BitVec.ofNat 16 bs.length) =
        s.setIp (s.ip + BitVec.ofNat 16 (bs.length + 1)) := congrArg s.setIp (add_one_add_word ..)
    rw [hip] at hw hafter
    refine ⟨(b, s.setIp (s.ip + 1)) :: w, ?_, congrArg (b :: ·) hbytes, (stateAfter_cons ..).trans hafter⟩
    rw [List.length_cons, Nat.succ_add, codeWindow, fetchByte_of_holdsCode hstale h]
    exact congrArg ((b, s.setIp (s.ip + 1)) :: ·) hw

/-- The bytes of an instruction that no longer row begins with are fetched as that instruction, and no more of them
(30_encoding.md R123, R165). -/
theorem fetch_of_holdsCode (hlevel : s.cfg.level ≠ .lx86) (hwf : i.wf s.cfg.level = true) (hstale : s.stale = [])
    (h : s.HoldsCode (encode i)) : fetch s = .ok (i, s.setIp (s.ip + BitVec.ofNat 16 (encode i).length)) := by
  have hlen := (encodeLength_of_level_ne_lx86 (level_ne_lx86_of_wf hlevel hwf)).2
  obtain ⟨n, hn⟩ := Nat.exists_eq_add_of_le hlen
  obtain ⟨w, hw, hbytes, hafter⟩ := codeWindow_of_holdsCode (encode i) n hstale h
  rw [← hn] at hw
  have hdecode := decodeEncodeBelowX86 s.cfg.level i
    ((codeWindow n (s.setIp (s.ip + BitVec.ofNat 16 (encode i).length))).map Prod.fst) hlevel hwf
  have htake : (w ++ codeWindow n (s.setIp (s.ip + BitVec.ofNat 16 (encode i).length))).take w.length = w :=
    List.take_left' rfl
  simp only [fetch, hw, List.map_append, hbytes, hdecode, List.length_append, List.length_map, Nat.add_sub_cancel, htake,
    hafter]

/-! ### Running the instruction fetched -/

/-- The state in which an instruction of `n` bytes runs: IP behind it, and `start` at its first byte, or at the first
byte of R140 read before it (30_encoding.md R140). -/
def State.fetched (s : State) (n : Nat) : State :=
  (s.setStart (if s.pfx.active then s.start else s.ip)).setIp (s.ip + BitVec.ofNat 16 n)

/-- What memory holds at CS:IP is an instruction that the level, below LX86, lists, and nothing is fetched ahead. -/
structure State.HoldsInstr (s : State) (i : Instr) : Prop where
  level : s.cfg.level ≠ .lx86
  wf : i.wf s.cfg.level = true
  stale : s.stale = []
  code : s.HoldsCode (encode i)

theorem State.HoldsInstr.fetch (h : s.HoldsInstr i) :
    fetch (if s.pfx.active then s else s.setStart s.ip) = .ok (i, s.fetched (encode i).length) := by
  unfold State.fetched
  split
  · exact fetch_of_holdsCode h.level h.wf h.stale h.code
  · exact fetch_of_holdsCode (s := s.setStart s.ip) h.level h.wf h.stale h.code

theorem State.HoldsInstr.fetchAndRun (h : s.HoldsInstr i)
    (hrep : s.pfx.rep = none ∨ isPrefix i = true ∨ isString i = true) :
    fetchAndRun s = runInstr i (s.fetched (encode i).length) := by
  have hcheck : checkPrefixes i (s.fetched (encode i).length) = .ok () := checkPrefixes_ok (hrep.imp_right Or.symm)
  simp only [Machine.fetchAndRun, h.fetch, hcheck]

theorem State.HoldsInstr.fetchAndRun_refused (h : s.HoldsInstr i) (hrep : s.pfx.rep ≠ none) (hpre : isPrefix i = false)
    (hstr : isString i = false) : Machine.fetchAndRun s = .refused .repeatOnNonString := by
  have hcheck : checkPrefixes i (s.fetched (encode i).length) = .error (.refused .repeatOnNonString) :=
    checkPrefixes_refused hrep hstr hpre
  simp only [Machine.fetchAndRun, h.fetch, hcheck]

/-! ### A step that goes on -/

/-- The sample and the boundary leave what an instruction works on. -/
theorem atExecute_eq (s : State) : ∃ i l n b h,
    s.atExecute = ((((s.setInputs i).setLines l).setNmiLatched n).setBoundary b).setIntInhibit h := by
  obtain ⟨i, l, n, hsample⟩ := sample_eq s
  unfold State.atExecute
  rw [hsample]
  split
  · exact ⟨i, l, n, s.boundary, s.intInhibit, rfl⟩
  · exact ⟨i, l, n, none, false, rfl⟩

@[simp] theorem atExecute_segs (s : State) : s.atExecute.segs = s.segs := by
  obtain ⟨i, l, n, b, h, heq⟩ := atExecute_eq s
  simp [heq]

@[simp] theorem atExecute_ip (s : State) : s.atExecute.ip = s.ip := by
  obtain ⟨i, l, n, b, h, heq⟩ := atExecute_eq s
  simp [heq]

@[simp] theorem atExecute_flags (s : State) : s.atExecute.flags = s.flags := by
  obtain ⟨i, l, n, b, h, heq⟩ := atExecute_eq s
  simp [heq]

@[simp] theorem atExecute_halted (s : State) : s.atExecute.halted = s.halted := by
  obtain ⟨i, l, n, b, h, heq⟩ := atExecute_eq s
  simp [heq]

@[simp] theorem atExecute_waiting (s : State) : s.atExecute.waiting = s.waiting := by
  obtain ⟨i, l, n, b, h, heq⟩ := atExecute_eq s
  simp [heq]

@[simp] theorem atExecute_pfx (s : State) : s.atExecute.pfx = s.pfx := by
  obtain ⟨i, l, n, b, h, heq⟩ := atExecute_eq s
  simp [heq]

@[simp] theorem atExecute_start (s : State) : s.atExecute.start = s.start := by
  obtain ⟨i, l, n, b, h, heq⟩ := atExecute_eq s
  simp [heq]

@[simp] theorem atExecute_repeating (s : State) : s.atExecute.repeating = s.repeating := by
  obtain ⟨i, l, n, b, h, heq⟩ := atExecute_eq s
  simp [heq]

@[simp] theorem atExecute_stale (s : State) : s.atExecute.stale = s.stale := by
  obtain ⟨i, l, n, b, h, heq⟩ := atExecute_eq s
  simp [heq]

@[simp] theorem atExecute_cfg (s : State) : s.atExecute.cfg = s.cfg := by
  obtain ⟨i, l, n, b, h, heq⟩ := atExecute_eq s
  simp [heq]

@[simp] theorem atExecute_mem (s : State) : s.atExecute.mem = s.mem := by
  obtain ⟨i, l, n, b, h, heq⟩ := atExecute_eq s
  simp [heq]

theorem State.HoldsInstr.atExecute (h : s.HoldsInstr i) : s.atExecute.HoldsInstr i where
  level := by simpa using h.level
  wf := by simpa using h.wf
  stale := (atExecute_stale s).trans h.stale
  code := h.code.of_same (atExecute_cfg s) (atExecute_segs s) (atExecute_ip s) (atExecute_mem s)

theorem atExecute_fetched (s : State) (n : Nat) : s.atExecute.fetched n =
    (s.atExecute.setStart (if s.pfx.active then s.start else s.ip)).setIp (s.ip + BitVec.ofNat 16 n) := by
  simp [State.fetched]

theorem atExecute_of_no_boundary (h : s.boundary = none) : s.atExecute = s.sample := if_pos h

theorem atExecute_of_boundary {tf : Bool} (h : s.boundary = some tf) :
    s.atExecute = (s.sample.setBoundary none).setIntInhibit false := if_neg (by simp [h])

/-- A boundary that is due accepts nothing under the shadow, which it ends (60_exceptions.md R721), or where nothing asks. -/
theorem State.GoesOn.step_eq (h : s.GoesOn) : step s = execute s.atExecute := by
  obtain ⟨hreset, hgoes⟩ := h
  cases hdue : s.boundary with
  | none =>
    rw [atExecute_of_no_boundary hdue]
    simp [step, cycle, hreset, hdue]
  | some tf =>
    rw [step_of_due hdue hreset, atExecute_of_boundary hdue]
    cases hinh : s.intInhibit with
    | true => exact atBoundary_of_inhibited tf ((sample_intInhibit s).trans hinh)
    | false =>
      obtain hnone | hshadow | ⟨hquiet, hnmi, hreq⟩ := hgoes
      · cases hdue.symm.trans hnone
      · cases hinh.symm.trans hshadow
      · cases hdue.symm.trans hquiet
        rw [← sample_flags s] at hreq
        have hclear : s.sample.setIntInhibit false = s.sample := by
          rw [← hinh, ← sample_intInhibit s]
          rfl
        have hstate : (s.sample.setBoundary none).setIntInhibit false = s.sample.setBoundary none :=
          congrArg (·.setBoundary none) hclear
        rw [hstate]
        exact atBoundary_of_nothing_taken ((sample_intInhibit s).trans hinh) hnmi hreq

theorem execute_of_next (hhalt : s.halted = false) (hwait : s.waiting = false) (hrep : s.repeating = none) :
    execute s = fetchAndRun s := by
  simp [execute, hhalt, hwait, hrep]

theorem runInstr_of_flags {f : Flags} (h : s.flags = f) (i : Instr) : runInstr i s = match exec i s with
    | .next t => .next (settle i f.tf t)
    | .fault f => .fault f
    | .refused r => .refused r := by
  cases h
  rfl

end

/-! ### The statement -/

/-- Settles O5: a step that goes on is `execute`, which runs the repetition in progress or fetches. -/
theorem stepRunsInstruction : Obligations.StepRunsInstruction := by
  refine ⟨?_, ?_, fun s h => h.step_eq, fun i tf t => ⟨fun hpre => if_pos hpre, fun hpre hrep => ?_, fun hpre hrep => ?_⟩⟩
  · intro s u i hlevel hwf hgoes hhalt hwait hrepeat hstale hcode hu
    have hstep : step s = fetchAndRun s.atExecute := hgoes.step_eq.trans
      (execute_of_next ((atExecute_halted s).trans hhalt) ((atExecute_waiting s).trans hwait)
        ((atExecute_repeating s).trans hrepeat))
    have hholds : s.atExecute.HoldsInstr i := State.HoldsInstr.atExecute ⟨hlevel, hwf, hstale, hcode⟩
    have hflags : (s.atExecute.fetched (encode i).length).flags = s.flags := atExecute_flags s
    rw [hstep, hu, ← atExecute_fetched, ← atExecute_pfx]
    exact ⟨fun hrep => (hholds.fetchAndRun hrep).trans (runInstr_of_flags hflags i),
      hholds.fetchAndRun_refused⟩
  · intro s i hgoes hhalt hwait hrepeat
    have hstep : step s = runInstr i s.atExecute := hgoes.step_eq.trans
      (execute_of_repeating ((atExecute_halted s).trans hhalt) ((atExecute_waiting s).trans hwait)
        ((atExecute_repeating s).trans hrepeat))
    exact hstep.trans (runInstr_of_flags (atExecute_flags s) i)
  · rw [settle_of_not_isPrefix hpre, if_pos (Option.isSome_iff_ne_none.2 hrep)]
    rfl
  · rw [settle_of_not_isPrefix hpre, hrep]
    rfl

end Sys2Proof.Machine

/-! ## RESET on a sample -/

namespace Sys2Proof.Machine

section
variable {s : State} {l : Lines} {rest : List Lines}

theorem sample_of_inputs_cons (h : s.inputs = l :: rest) :
    s.sample = ((s.setInputs rest).setLines l).setNmiLatched (s.nmiLatched || l.nmi) := by
  rw [State.sample, h]

/-- RESET is looked at before the boundary, the holds and the repetition (60_exceptions.md R720 step 0; 70_reset_and_hazards.md R760). -/
theorem step_of_reset (hreset : s.sample.lines.reset = true) : step s = .next (resetCpu s.sample) := if_pos hreset

end

/-- Settles O57: the processor takes the values of `State.reset` (R760); sample and reset keep the rest (R762). -/
theorem resetLine : Obligations.ResetLine := by
  intro s l rest hinputs hl
  have hsample := sample_of_inputs_cons hinputs
  have hreset : s.sample.lines.reset = true := (congrArg (·.lines.reset) hsample).trans hl
  have hrest : s.sample.inputs = rest := congrArg State.inputs hsample
  obtain ⟨hsegs, hip, hflags, hinhibit, hhalted, hwaiting, hpfx, hnmi, hstale, -, -⟩ := resetValues
  exact ⟨resetCpu s.sample, step_of_reset hreset, hsegs, hip, hflags, hinhibit, hhalted, hwaiting, hpfx, rfl, rfl, hnmi,
    hstale, sample_mem s, sample_cfg s, sample_events s, hrest⟩

end Sys2Proof.Machine
